-- ==== Sys2Proof/Word.lean ====
section
/-! DEFINITION. The word types of the block and the plain data its fields are made of. -/

namespace Sys2Proof

/-- An operation word, `{OPN[7:0], ARG[15:0]}` (30_encoding R81). -/
abbrev OpWord := BitVec 24

/-- One byte: a KeyCode (R83), a character code (R212). -/
abbrev Byte := BitVec 8

/-- DV_WIDTH, the bits of the word that holds DisplayValue (00_scope R6). PRESUMED by the spec itself
(92_eei_decisions D9); log 13. -/
abbrev dvWidth : Nat := 32

/-- A row of the playfield, coded 0 = top, 1 = bottom (10_state R37, 30_encoding R94). -/
inductive Lane where
  | top
  | bottom
deriving DecidableEq, Repr, Inhabited

/-- A cell of the playfield: a row and a column in 0..15 (10_state R37). -/
structure Pos where
  row : Lane
  col : BitVec 4
deriving DecidableEq, Repr, Inhabited

/-- Which rows are selected during the release-wait (43_keypad_scanner R168; `none` is excluded, C4). -/
inductive ReleaseRows where
  | accepted
  | all
deriving DecidableEq, Repr, Inhabited

/-- Which transition of the mode switch flips the player's row (44_game_loop R186). -/
inductive SwitchEdge where
  | rising
  | both
deriving DecidableEq, Repr, Inhabited

/-- The moves the agents can make of themselves (00_scope R5, 46_arithmetic_and_sequencing R202): the
timer fires, the interrupt context takes a micro-step, the polling context takes a micro-step, the
environment moves a key or the switch. -/
inductive Mover where
  | timer
  | interrupt
  | polling
  | key (level : Bool) (row col : BitVec 2)
  | switch (level : Bool)
deriving DecidableEq, Repr, Inhabited

/-- The operations that occur in the spec with a nominal duration (00_scope R10, `delay(T)`). -/
inductive Delay where
  /-- T_SETTLE, 43_keypad_scanner R163 -/
  | settle
  /-- T_QUIET, 43_keypad_scanner R169 -/
  | quiet
  /-- WAIT d, nominal milliseconds, 45_external_collaborators R216 -/
  | wait (ms : BitVec 16)
  /-- STEP_DELAY[SpeedTier], 44_game_loop R190 -/
  | step (tier : BitVec 1)
  /-- LOSS_HOLD_DELAY, 44_game_loop R189 -/
  | lossHold
deriving DecidableEq, Repr

end Sys2Proof
end

