-- ==== Sys2Proof/Syntax.lean ====
section
/-! DEFINITION. The 42 operations of 30_encoding R93, one constructor per row of spec/opcode_table.json. -/

namespace Sys2Proof

/-- The operations of the block (30_encoding R93). Operands as R82 lays them out. -/
inductive Instr where
  /-- RESET, 0x00, R250 -/
  | reset
  /-- TMR_FIRE, 0x01, R101 -/
  | tmrFire
  /-- TICK_HANDLER, 0x02, R102 -/
  | tickHandler
  /-- PACE_STEP, 0x03, R103 -/
  | paceStep
  /-- EFFECT_TICK, 0x04, R104 -/
  | effectTick
  /-- GLOW_STEP, 0x05, R122 -/
  | glowStep
  /-- ALARM_STEP, 0x06, R125 -/
  | alarmStep
  /-- MUX_STEP, 0x07, R143 -/
  | muxStep
  /-- IRQ_ACK, 0x08, R105 -/
  | irqAck
  /-- TICK_START, 0x10, R100 -/
  | tickStart
  /-- DV_WRITE v, 0x11, R140 -/
  | dvWrite (v : BitVec 16)
  /-- GLOW_TRIGGER, 0x12, R121 -/
  | glowTrigger
  /-- ALARM_TRIGGER, 0x13, R124 -/
  | alarmTrigger
  /-- KEY_SCAN, 0x14, R161 -/
  | keyScan
  /-- ROW_DRIVE r, 0x15, R162 -/
  | rowDrive (r : BitVec 2)
  /-- SETTLE_WAIT, 0x16, R163 -/
  | settleWait
  /-- COL_SAMPLE, 0x17, R164 -/
  | colSample
  /-- ROW_RESTORE r, 0x18, R165 -/
  | rowRestore (r : BitVec 2)
  /-- RELEASE_WAIT, 0x19, R168 -/
  | releaseWait
  /-- QUIET_WAIT, 0x1A, R169 -/
  | quietWait
  /-- MODE_READ, 0x1B, R195 -/
  | modeRead
  /-- WAIT d, 0x1C, R216 -/
  | wait (d : BitVec 16)
  /-- GAME_BOOT, 0x20, R181 -/
  | gameBoot
  /-- MENU_ITER, 0x21, R182 -/
  | menuIter
  /-- MODESEL_ITER, 0x22, R183 -/
  | modeselIter
  /-- PLAY_ENTER, 0x23, R184 -/
  | playEnter
  /-- PLAY_STEP, 0x24, R185 -/
  | playStep
  /-- SW_EDGE, 0x25, R186 -/
  | swEdge
  /-- ENT_ADVANCE e, 0x26, R187; e = 0 collectible, 1 hazard, 2 and 3 illegal (R82) -/
  | entAdvance (e : BitVec 2)
  /-- COLLECT_CHECK, 0x27, R188 -/
  | collectCheck
  /-- HAZARD_CHECK, 0x28, R189 -/
  | hazardCheck
  /-- STORE_ITER, 0x29, R191 -/
  | storeIter
  /-- STORE_PURCHASE i, 0x2A, R192; i = 3 illegal (R82) -/
  | storePurchase (i : BitVec 2)
  /-- GAME_EXIT, 0x2B, R194 -/
  | gameExit
  /-- PIN_CONFIG, 0x30, R210 -/
  | pinConfig
  /-- LCD_CMD b, 0x31, R211 -/
  | lcdCmd (b : Byte)
  /-- LCD_GLYPH b, 0x32, R212 -/
  | lcdGlyph (b : Byte)
  /-- LCD_CURSOR row, col, 0x33, R213 -/
  | lcdCursor (row : BitVec 1) (col : BitVec 4)
  /-- ADC_READ id, 0x34, R214 -/
  | adcRead (id : Byte)
  /-- AUDIO_PULSE, 0x35, R215 -/
  | audioPulse
  /-- ENV_KEY level, row, col, 0x40, R174 -/
  | envKey (level : Bool) (row col : BitVec 2)
  /-- ENV_SW level, 0x41, R196 -/
  | envSw (level : Bool)
deriving DecidableEq, Repr

/-- The agent that performs an operation (the column "agent" of R93). -/
inductive Agent where
  | powerOn
  | timer
  | tick
  | poll
  | environment
deriving DecidableEq, Repr

end Sys2Proof
end

