-- ==== Sys2Proof/WellFormed.lean ====
section
/-! DEFINITION. The operand values R82 calls illegal: ENT_ADVANCE 2 and 3, STORE_PURCHASE 3. Every
other operand is legal at every value of its type. -/

namespace Sys2Proof

/-- The checks of 30_encoding R82 and R90 (a) on operand values. -/
def Instr.wellFormed : Instr → Bool
  | .entAdvance e => e.toNat < 2
  | .storePurchase i => i.toNat < 3
  | .reset | .tmrFire | .tickHandler | .paceStep | .effectTick | .glowStep | .alarmStep | .muxStep
  | .irqAck | .tickStart | .dvWrite _ | .glowTrigger | .alarmTrigger | .keyScan | .rowDrive _
  | .settleWait | .colSample | .rowRestore _ | .releaseWait | .quietWait | .modeRead | .wait _
  | .gameBoot | .menuIter | .modeselIter | .playEnter | .playStep | .swEdge | .collectCheck
  | .hazardCheck | .storeIter | .gameExit | .pinConfig | .lcdCmd _ | .lcdGlyph _ | .lcdCursor _ _
  | .adcRead _ | .audioPulse | .envKey _ _ _ | .envSw _ => true

end Sys2Proof
end

