-- ==== Sys2Proof/Decode.lean ====
section
/-! DEFINITION. Reading an operation word (30_encoding R81, R82, R90, R93), total on every word and
rejecting by name; after it the encoder, from the same tables. The word is the spec's own device (R81): no
behaviour of the block depends on it. -/

namespace Sys2Proof

/-- Why a word is not an operation (30_encoding R90 (a)). -/
inductive DecodeError where
  /-- the OPN is not in the table of R93 -/
  | unassignedOpn (opn : Nat)
  /-- a listed OPN with a nonzero unused ARG bit -/
  | nonzeroUnusedBits
  /-- an operand value R82 marks illegal -/
  | illegalOperand
deriving DecidableEq, Repr

/-- An operation whose operands are legal. -/
def acceptOperand (i : Instr) : Except DecodeError Instr :=
  if i.wellFormed then .ok i else .error .illegalOperand

/-- Format N: ARG = 0x0000. -/
def argN (i : Instr) (arg : Nat) : Except DecodeError Instr :=
  if arg = 0 then .ok i else .error .nonzeroUnusedBits

/-- Format V: ARG[15:0] = v. -/
def argV (k : BitVec 16 → Instr) (arg : Nat) : Except DecodeError Instr :=
  .ok (k (BitVec.ofNat 16 arg))

/-- Format R: ARG[1:0] = i, ARG[15:2] = 0. -/
def argR (k : BitVec 2 → Instr) (arg : Nat) : Except DecodeError Instr :=
  if arg < 4 then acceptOperand (k (BitVec.ofNat 2 arg)) else .error .nonzeroUnusedBits

/-- Format B: ARG[7:0] = b, ARG[15:8] = 0. -/
def argB (k : Byte → Instr) (arg : Nat) : Except DecodeError Instr :=
  if arg < 256 then .ok (k (BitVec.ofNat 8 arg)) else .error .nonzeroUnusedBits

/-- Format P: ARG[4] = row, ARG[3:0] = col, others 0. -/
def argP (k : BitVec 1 → BitVec 4 → Instr) (arg : Nat) : Except DecodeError Instr :=
  if arg < 32 then .ok (k (BitVec.ofNat 1 (arg / 16)) (BitVec.ofNat 4 (arg % 16)))
  else .error .nonzeroUnusedBits

/-- Format K: ARG[8] = level, ARG[5:4] = row, ARG[1:0] = col, others 0. -/
def argK (k : Bool → BitVec 2 → BitVec 2 → Instr) (arg : Nat) : Except DecodeError Instr :=
  if arg < 512 ∧ arg / 16 % 16 < 4 ∧ arg % 16 < 4 then
    .ok (k (decide (arg / 256 = 1)) (BitVec.ofNat 2 (arg / 16 % 16)) (BitVec.ofNat 2 (arg % 16)))
  else .error .nonzeroUnusedBits

/-- Format L: ARG[0] = level, others 0. -/
def argL (k : Bool → Instr) (arg : Nat) : Except DecodeError Instr :=
  if arg < 2 then .ok (k (decide (arg = 1))) else .error .nonzeroUnusedBits

/-- The operation map of 30_encoding R93: OPN and ARG to an operation. -/
def decodeParts (opn arg : Nat) : Except DecodeError Instr :=
  match opn with
  | 0x00 => argN .reset arg
  | 0x01 => argN .tmrFire arg
  | 0x02 => argN .tickHandler arg
  | 0x03 => argN .paceStep arg
  | 0x04 => argN .effectTick arg
  | 0x05 => argN .glowStep arg
  | 0x06 => argN .alarmStep arg
  | 0x07 => argN .muxStep arg
  | 0x08 => argN .irqAck arg
  | 0x10 => argN .tickStart arg
  | 0x11 => argV .dvWrite arg
  | 0x12 => argN .glowTrigger arg
  | 0x13 => argN .alarmTrigger arg
  | 0x14 => argN .keyScan arg
  | 0x15 => argR .rowDrive arg
  | 0x16 => argN .settleWait arg
  | 0x17 => argN .colSample arg
  | 0x18 => argR .rowRestore arg
  | 0x19 => argN .releaseWait arg
  | 0x1A => argN .quietWait arg
  | 0x1B => argN .modeRead arg
  | 0x1C => argV .wait arg
  | 0x20 => argN .gameBoot arg
  | 0x21 => argN .menuIter arg
  | 0x22 => argN .modeselIter arg
  | 0x23 => argN .playEnter arg
  | 0x24 => argN .playStep arg
  | 0x25 => argN .swEdge arg
  | 0x26 => argR .entAdvance arg
  | 0x27 => argN .collectCheck arg
  | 0x28 => argN .hazardCheck arg
  | 0x29 => argN .storeIter arg
  | 0x2A => argR .storePurchase arg
  | 0x2B => argN .gameExit arg
  | 0x30 => argN .pinConfig arg
  | 0x31 => argB .lcdCmd arg
  | 0x32 => argB .lcdGlyph arg
  | 0x33 => argP .lcdCursor arg
  | 0x34 => argB .adcRead arg
  | 0x35 => argN .audioPulse arg
  | 0x40 => argK .envKey arg
  | 0x41 => argL .envSw arg
  | n => .error (.unassignedOpn n)

/-- Decoding an operation word: OPN in bits 23:16, ARG in bits 15:0 (30_encoding R81). -/
def decode (w : OpWord) : Except DecodeError Instr :=
  decodeParts (w.toNat / 65536) (w.toNat % 65536)

/-- The decoder on a number of `nbits` bits, numbered as spec/opcode_table.json numbers them; the bits
above `nbits` are 0. -/
def decodeTableWord (nbits w : Nat) : Option Instr :=
  if nbits ≤ 24 ∧ w < 2 ^ nbits then
    match decode (BitVec.ofNat 24 w) with
    | .ok i => some i
    | .error _ => none
  else none

/-- The OPN of an operation (30_encoding R93). -/
def Instr.opn : Instr → Nat
  | .reset => 0x00
  | .tmrFire => 0x01
  | .tickHandler => 0x02
  | .paceStep => 0x03
  | .effectTick => 0x04
  | .glowStep => 0x05
  | .alarmStep => 0x06
  | .muxStep => 0x07
  | .irqAck => 0x08
  | .tickStart => 0x10
  | .dvWrite _ => 0x11
  | .glowTrigger => 0x12
  | .alarmTrigger => 0x13
  | .keyScan => 0x14
  | .rowDrive _ => 0x15
  | .settleWait => 0x16
  | .colSample => 0x17
  | .rowRestore _ => 0x18
  | .releaseWait => 0x19
  | .quietWait => 0x1A
  | .modeRead => 0x1B
  | .wait _ => 0x1C
  | .gameBoot => 0x20
  | .menuIter => 0x21
  | .modeselIter => 0x22
  | .playEnter => 0x23
  | .playStep => 0x24
  | .swEdge => 0x25
  | .entAdvance _ => 0x26
  | .collectCheck => 0x27
  | .hazardCheck => 0x28
  | .storeIter => 0x29
  | .storePurchase _ => 0x2A
  | .gameExit => 0x2B
  | .pinConfig => 0x30
  | .lcdCmd _ => 0x31
  | .lcdGlyph _ => 0x32
  | .lcdCursor _ _ => 0x33
  | .adcRead _ => 0x34
  | .audioPulse => 0x35
  | .envKey _ _ _ => 0x40
  | .envSw _ => 0x41

/-- The ARG of an operation, by its format (30_encoding R82); format N has ARG = 0. -/
def Instr.arg : Instr → Nat
  | .dvWrite v => v.toNat
  | .wait d => d.toNat
  | .rowDrive r => r.toNat
  | .rowRestore r => r.toNat
  | .entAdvance e => e.toNat
  | .storePurchase i => i.toNat
  | .lcdCmd b => b.toNat
  | .lcdGlyph b => b.toNat
  | .adcRead id => id.toNat
  | .lcdCursor row col => row.toNat * 16 + col.toNat
  | .envKey level row col => level.toNat * 256 + row.toNat * 16 + col.toNat
  | .envSw level => level.toNat
  | .reset | .tmrFire | .tickHandler | .paceStep | .effectTick | .glowStep | .alarmStep | .muxStep
  | .irqAck | .tickStart | .glowTrigger | .alarmTrigger | .keyScan | .settleWait | .colSample
  | .releaseWait | .quietWait | .modeRead | .gameBoot | .menuIter | .modeselIter | .playEnter
  | .playStep | .swEdge | .collectCheck | .hazardCheck | .storeIter | .gameExit | .pinConfig
  | .audioPulse => 0

/-- The operation word of an operation (30_encoding R81). -/
def encode (i : Instr) : OpWord :=
  BitVec.ofNat 24 (i.opn * 65536 + i.arg)

/-- The agent that performs an operation: the column "agent" of 30_encoding R93 (OPN's high nibble names
the group: 0x0 timer and tick context, 0x1 to 0x3 polling context, 0x4 environment). -/
def Instr.agent : Instr → Agent
  | .reset => .powerOn
  | .tmrFire => .timer
  | .tickHandler | .paceStep | .effectTick | .glowStep | .alarmStep | .muxStep | .irqAck => .tick
  | .envKey _ _ _ | .envSw _ => .environment
  | .tickStart | .dvWrite _ | .glowTrigger | .alarmTrigger | .keyScan | .rowDrive _ | .settleWait
  | .colSample | .rowRestore _ | .releaseWait | .quietWait | .modeRead | .wait _ | .gameBoot
  | .menuIter | .modeselIter | .playEnter | .playStep | .swEdge | .entAdvance _ | .collectCheck
  | .hazardCheck | .storeIter | .storePurchase _ | .gameExit | .pinConfig | .lcdCmd _ | .lcdGlyph _
  | .lcdCursor _ _ | .adcRead _ | .audioPulse => .poll

end Sys2Proof
end

