-- ==== Sys2Proof/Config.lean ====
section
/-! DEFINITION. What the spec leaves open: the OPEN parameters of rule R6 and the free values, each a
constant without a body, so that no proof can see what it is (log 2, 12, 14, 15, 16). The parameters
that have a default stand in Machine/Params.lean. -/

namespace Sys2Proof

/-! ## OPEN parameters (00_scope R6, 92_eei_decisions) -/

/-- RELEASE_ROWS, D24. -/
opaque Config.releaseRows : ReleaseRows

/-- PLAYER_COL, D29. -/
opaque Config.playerCol : BitVec 4

/-- PLAYER_ROW0, D29. -/
opaque Config.playerRow0 : Lane

/-- COLLECT_INIT, D29. -/
opaque Config.collectInit : Pos

/-- HAZARD_INIT, D29. -/
opaque Config.hazardInit : Pos

/-- PRICE[0..2], D33. -/
opaque Config.price : Fin 3 → Nat

/-- GLYPH[0..2], D33. -/
opaque Config.glyph : Fin 3 → Byte

/-- GLYPH_DEFAULT, D33. -/
opaque Config.glyphDefault : Byte

/-- Which key of the matrix (key number 4*row + col) has which part in Menu: 0 is K_PLAY, 1 K_EXIT,
2 K_STORE. A permutation, because the K_* of one state are distinct legal KeyCodes (D33). -/
opaque Config.menuKeys : Equiv.Perm (Fin 16)

/-- The keys of ModeSelect: 0 is K_TIER[0], 1 is K_TIER[1] (D33). -/
opaque Config.tierKeys : Equiv.Perm (Fin 16)

/-- The keys of Store: 0, 1, 2 are K_BUY[0..2], 3 is K_BACK (D33, D34). -/
opaque Config.storeKeys : Equiv.Perm (Fin 16)

/-- AN_ACTIVE_LEVEL: whether an enabled anode is electrically high; appears in no rule (D6). -/
opaque Config.anActiveHigh : Bool

/-- SEG_ACTIVE_LEVEL: whether a lit segment is electrically high; appears in no rule (D6). -/
opaque Config.segActiveHigh : Bool

/-- SW_ACTIVE_LEVEL: whether an asserted mode switch is electrically high; appears in no rule (D28). -/
opaque Config.swActiveHigh : Bool

/-- T_SETTLE, in milliseconds; timing, no rule depends on it (D25). -/
opaque Config.settleMs : Nat

/-- T_QUIET, in milliseconds; timing, no rule depends on it (D25). -/
opaque Config.quietMs : Nat

/-- STEP_DELAY[0..1], in milliseconds; timing, no rule depends on it (D35). -/
opaque Config.stepMs : BitVec 1 → Nat

/-- LOSS_HOLD_DELAY, in milliseconds; timing, no rule depends on it (D35). -/
opaque Config.lossHoldMs : Nat

/-! ## Free values -/

/-- Which agent moves in a step that no script decides, for each value of `State.turn`: the order of the
agents is under no law (20_memory R67, 00_scope R10); log 2. -/
opaque Config.mover : Nat → Mover

/-- What ADC_READ of a channel returns, for each value of `State.draws` (R214, 93 U12); log 16. -/
opaque Config.adcSample : Byte → Nat → Int

/-- The rows a RELEASE_WAIT selects when there is no accepted key and RELEASE_ROWS = accepted
(R168, R203), for each value of `State.draws`; log 14. -/
opaque Config.freeRows : Nat → BitVec 4

/-- Which of the words above DV_MAX is stored by a DV_WRITE of a Currency that does not fit DV_WIDTH bits (R140,
R193, 93 U21), for each value of `State.draws`; `overflowWord` makes the word of it; log 15. -/
opaque Config.freeDisplay : Nat → Nat

end Sys2Proof
end

