-- ==== Sys2Proof/Machine/Params.lean ====
section
/-! DEFINITION. The parameters of 00_scope R6 that have a default, at that default (log 13). A claim that
depends on one names it: the rules are written over these names, never over the numbers. -/

namespace Sys2Proof

/-- DV_MAX, the largest legal DisplayValue. -/
def Config.dvMax : Nat := 9999

/-- EFFECT_DIV, ticks per effect-tick (D3). -/
def Config.effectDiv : Nat := 100

/-- GLOW_DURATION, effect-ticks a Glow lasts (D2). -/
def Config.glowDuration : Nat := 3

/-- ALARM_BUDGET, toggles an Alarm makes (D2). -/
def Config.alarmBudget : Nat := 6

/-- SEG_TABLE, the ten segment patterns of digits 0 to 9, {g, f, e, d, c, b, a} (30_encoding R85, R86;
general knowledge of the spec's own, D5). -/
def Config.segTable : List (BitVec 7) :=
  [0x3F#7, 0x06#7, 0x5B#7, 0x4F#7, 0x66#7, 0x6D#7, 0x7D#7, 0x07#7, 0x7F#7, 0x6F#7]

/-- SLOT_PLACE, the decimal place slot s shows: 3 - s (30_encoding R89, D4). -/
def Config.slotPlace (s : BitVec 2) : Nat := 3 - s.toNat

/-- ROW_ORDER, the row scanned i-th: 0, 1, 2, 3 (D20). -/
def Config.rowOrder (i : BitVec 2) : BitVec 2 := i

/-- KEY_BASE, the number of the first row and column (30_encoding R83, D20). -/
def Config.keyBase : Byte := 0

/-- NOKEY, the "no key" byte (30_encoding R84, D21). -/
def Config.noKey : Byte := 0xFF#8

/-- SWITCH_EDGE, the transition that flips the player's row (D27). -/
def Config.switchEdge : SwitchEdge := .rising

/-- CURRENCY_INIT, Currency at power-on (D32). -/
def Config.currencyInit : Nat := 0

/-- COL_PRESSED_LEVEL: whether an asserted column is electrically high; it is low (D22). -/
def Config.colPressedHigh : Bool := false

/-! The fixed parameters: the rules depend on them, so the types carry them, and Laws/Ops.lean proves each type
of the size its parameter names. -/

/-- N_SLOTS, digit slots of the multiplexer: DigitSlot's two bits, a bit of AN each. -/
def Config.nSlots : Nat := 4

/-- N_ROWS, keypad rows: a bit of ROW each. -/
def Config.nRows : Nat := 4

/-- N_COLS, keypad columns: a bit of a column snapshot each. -/
def Config.nCols : Nat := 4

/-- LCD_ROWS, rows of the playfield: the constructors of `Lane`. -/
def Config.lcdRows : Nat := 2

/-- LCD_COLS, columns of the playfield: the values of `Pos.col`. -/
def Config.lcdCols : Nat := 16

/-- N_GLYPHS, glyphs of the store: the values of `Fin 3`. -/
def Config.nGlyphs : Nat := 3

/-- BLINK_ACTIVE_LEVEL: whether an active blink pin is electrically high; it is (30_encoding R95). -/
def Config.blinkActiveHigh : Bool := true

/-- TICK_PERIOD_NOMINAL, in milliseconds; timing, no rule depends on it (00_scope R10). -/
def Config.tickPeriodMs : Nat := 2

/-- EFFECT_PERIOD_NOMINAL, in milliseconds; timing, no rule depends on it (00_scope R10). -/
def Config.effectPeriodMs : Nat := 200

/-- The nominal duration T of a `delay(T)`, in milliseconds (00_scope R10). No step reads it. -/
def Delay.nominalMs : Delay → Nat
  | .settle => Config.settleMs
  | .quiet => Config.quietMs
  | .wait ms => ms.toNat
  | .step tier => Config.stepMs tier
  | .lossHold => Config.lossHoldMs

end Sys2Proof
end

