-- ==== Sys2Proof/Machine/State.lean ====
section
/-! DEFINITION. The state of the block (10_state R20 to R38, R47), the environment's (R34, R35), what the
operations return (30_encoding R82), and the place of each agent in its work (00_scope R8, R11); the reasons
a step can stop; the state after reset (R46). -/

namespace Sys2Proof.Machine

/-- GameState (10_state R37). -/
inductive GameState where
  | menu
  | modeSelect
  | playing
  | store
  | exit
deriving DecidableEq, Repr

/-- KS_PHASE (10_state R36). -/
inductive KsPhase where
  | idle
  | drive
  | settle
  | sample
  | release
  | quiet
deriving DecidableEq, Repr

/-- The 16 contacts of the keypad, row by row; bit c of a row is 1 while the key of column c is pressed
(10_state R34). -/
structure KeyMatrix where
  row0 : BitVec 4
  row1 : BitVec 4
  row2 : BitVec 4
  row3 : BitVec 4
deriving DecidableEq, Repr

/-- The two moving entities (44_game_loop R187: e = 0 the collectible, e = 1 the hazard). -/
inductive Entity where
  | collectible
  | hazard
deriving DecidableEq, Repr

/-- The faults of 60_exceptions R223, with the info each records. -/
inductive FaultName where
  /-- raised by MUX_STEP: the DisplayValue read is above DV_MAX (42_display_mux R146) -/
  | displayRange (v : Nat)
  /-- raised by SegRead: no Segment Table entry for this digit (42_display_mux R142) -/
  | segIndex (d : Nat)
  /-- raised by TICK_START and KEY_SCAN: PinsConfigured = 0 (70_reset_and_hazards R252) -/
  | bootOrder
deriving DecidableEq, Repr

/-- `Faults`, a set of fault names with their info (10_state R38, 60_exceptions R221): the values recorded
with DisplayRange and SegIndex, each list strictly rising so that equal sets are equal data (log 19), and
whether BootOrder is in the set. -/
structure FaultSet where
  displayRange : List Nat
  segIndex : List Nat
  bootOrder : Bool
deriving DecidableEq, Repr

/-- The empty set of faults. -/
def FaultSet.empty : FaultSet := ⟨[], [], false⟩

/-- The canonical form of a fault set: both lists strictly rising. -/
abbrev FaultSet.wf (f : FaultSet) : Prop :=
  f.displayRange.Pairwise (· < ·) ∧ f.segIndex.Pairwise (· < ·)

/-- The external collaborators the polling context calls (45_external_collaborators) and the calls whose
arguments the spec omits (44_game_loop, "call LCD…" and the quiz gate). -/
inductive Collab where
  | lcdCommand (b : Byte)
  | lcdGlyph (b : Byte)
  | lcdCursor (row : BitVec 1) (col : BitVec 4)
  | audioPulse
  | lcdText
  | quizGate
deriving DecidableEq, Repr

/-- What the polling context has to do: an operation of R93 it performs, or the rest of a composite after
one of its parts (46_arithmetic_and_sequencing R202). A task takes one or more micro-steps; each is defined
in the family file of its operation. -/
inductive Task where
  | tickStart
  | dvWrite (v : BitVec 16)
  /-- `DV_WRITE Currency` of the Game Loop -/
  | dvCurrency
  | glowTrigger
  | alarmTrigger
  | keyScan
  /-- KEY_SCAN's `ROW_DRIVE r` for the row of KS_ROW -/
  | scanDrive
  /-- KEY_SCAN's SETTLE_WAIT -/
  | scanSettle
  /-- KEY_SCAN's `cols = COL_SAMPLE` -/
  | scanSample
  /-- KEY_SCAN's `ROW_RESTORE r` and the test of the sample -/
  | scanRestore
  /-- KEY_SCAN's QUIET_WAIT -/
  | scanQuiet
  /-- KEY_SCAN's `return KeyCode(KS_HIT)` -/
  | scanReturn
  | rowDrive (r : BitVec 2)
  | colSample
  | rowRestore (r : BitVec 2)
  | releaseWait
  | delay (d : Delay)
  | modeRead
  | gameBoot
  /-- GAME_BOOT's `GameState <- Menu` -/
  | enterLoop
  | menuIter
  /-- MENU_ITER's test of the key code -/
  | menuRoute
  | modeselIter
  /-- MODESEL_ITER's test of the key code -/
  | modeselRoute
  | playEnter
  | playStep
  /-- PLAY_STEP's closing wait -/
  | stepEnd
  | swEdge
  | entAdvance (e : Entity)
  | collectCheck
  | hazardCheck
  /-- HAZARD_CHECK's `GameState <- Menu` -/
  | lossEnd
  | storeIter
  /-- STORE_ITER's test of the key code -/
  | storeRoute
  | storePurchase (i : Fin 3)
  /-- STORE_PURCHASE's `SelectedGlyph <- GLYPH[i]` -/
  | recordGlyph (i : Fin 3)
  | gameExit
  | pinConfig
  | call (c : Collab)
  | adcRead (id : Byte)
deriving DecidableEq, Repr

/-- What the interrupt context has to do inside a handler (40_tick_source R102 to R105). -/
inductive TickTask where
  | pace
  | effect
  | glow
  | alarm
  | mux
  | ack
deriving DecidableEq, Repr

/-- An agent's place in its work: the tasks it has still to perform, the first being the one in progress,
and how many micro-steps of that one are done. -/
structure Agenda (α : Type) where
  todo : List α
  stage : Nat
deriving DecidableEq, Repr

/-- An agent between two operations. -/
def Agenda.idle {α : Type} : Agenda α := ⟨[], 0⟩

/-- One entry of a run (95_test_vectors Part 3; log 1, 3): an operation word performed whole, an operation
word of the polling context begun without any of its micro-steps, or one turn of one agent. -/
inductive Slot where
  | word (w : OpWord)
  | issue (w : OpWord)
  | turn (m : Mover)
deriving DecidableEq, Repr

/-- The state. Field by field INVENTORY.md names the rule and the reset value. -/
structure State where
  /-- PinsConfigured, R47 -/
  pinsConfigured : Bool
  /-- TickRun, R21 -/
  tickRun : Bool
  /-- TickPending, R22 -/
  tickPending : Bool
  /-- PaceCount, R23 -/
  paceCount : Nat
  /-- DisplayValue, R24 -/
  displayValue : BitVec dvWidth
  /-- DigitSlot, R25 -/
  digitSlot : BitVec 2
  /-- AN, R26 -/
  an : BitVec 4
  /-- SEG, R27 -/
  seg : BitVec 7
  /-- GlowArmed, R29 -/
  glowArmed : Bool
  /-- GlowCount, R30 -/
  glowCount : Nat
  /-- GLOW_PIN, R31 -/
  glowPin : Bool
  /-- AlarmArmed, R32 -/
  alarmArmed : Bool
  /-- AlarmCount, R32 -/
  alarmCount : Nat
  /-- ALARM_PIN, R32 -/
  alarmPin : Bool
  /-- ROW, R33 -/
  row : BitVec 4
  /-- KS_PHASE, R36 -/
  ksPhase : KsPhase
  /-- KS_ROW, R36 -/
  ksRow : BitVec 2
  /-- KS_HIT, R36 -/
  ksHit : Option (BitVec 2 × BitVec 2)
  /-- Key, R34 -/
  key : KeyMatrix
  /-- Sw, R35 -/
  sw : Bool
  /-- GameState, R37 -/
  gameState : GameState
  /-- SpeedTier, R37 -/
  speedTier : BitVec 1
  /-- Player.row, R37 -/
  playerRow : Lane
  /-- Collect.row, Collect.col, R37 -/
  collect : Pos
  /-- Hazard.row, Hazard.col, R37 -/
  hazard : Pos
  /-- Currency, R37, R193 -/
  currency : Nat
  /-- SelectedGlyph, R37 -/
  selectedGlyph : Byte
  /-- PrevSw, R37 -/
  prevSw : Bool
  /-- Faults, R38, R221 -/
  faults : FaultSet
  /-- the byte KEY_SCAN returned last, R82 -/
  keyResult : Byte
  /-- the snapshot COL_SAMPLE returned last, R82 -/
  colResult : BitVec 4
  /-- the level MODE_READ returned last, R82 -/
  modeResult : Bool
  /-- the integer ADC_READ returned last, R82 -/
  adcResult : Int
  /-- the polling context's place in its work, R11, R202; log 6 -/
  poll : Agenda Task
  /-- the interrupt context's place in the handler, R11, R102; log 6 -/
  tick : Agenda TickTask
  /-- whether GAME_BOOT has run, R181, R202 -/
  booted : Bool
  /-- the moves still to be made; log 1 -/
  script : List Slot
  /-- how many movers have been drawn; log 2 -/
  turn : Nat
  /-- how many other free values have been drawn; log 11 -/
  draws : Nat
deriving DecidableEq, Repr

/-- No condition of the block stops the machine: the three faults of 60_exceptions R223 are recorded in
`State.faults` and the operation that raises one answers a next state (R221, R222). The type has no
constructor. -/
inductive Fault : Type
deriving DecidableEq, Repr

/-- Why a step has no meaning. Every one is safe: nothing is proved of a run that stops. -/
inductive Refusal where
  /-- raised by exec's arm of an instruction without a meaning (none is left); safe -/
  | notModelled (mnemonic : String)
  /-- raised by ENT_ADVANCE and STORE_PURCHASE on an operand R82 marks illegal, which no word decodes to
  (R90 (a)); safe -/
  | illegalOperand
  /-- raised by step when the script's next word is not an operation (30_encoding R90 (a): "a decoder of
  operation words refuses it"); safe -/
  | notAnOperation (why : DecodeError)
deriving DecidableEq, Repr

/-- The state right after reset (10_state R46). The fields the rule leaves unspecified (Key, Sw, SpeedTier,
Player.row, Collect, Hazard, PrevSw) hold the values log 10 names, the model's own fields those of log 11. -/
def State.reset : State where
  pinsConfigured := false
  tickRun := false
  tickPending := false
  paceCount := 0
  displayValue := 0
  digitSlot := 0
  an := 0
  seg := 0
  glowArmed := false
  glowCount := 0
  glowPin := false
  alarmArmed := false
  alarmCount := 0
  alarmPin := false
  row := 0
  ksPhase := .idle
  ksRow := 0
  ksHit := none
  key := ⟨0, 0, 0, 0⟩
  sw := false
  gameState := .menu
  speedTier := 0
  playerRow := .top
  collect := ⟨.top, 0⟩
  hazard := ⟨.top, 0⟩
  currency := Config.currencyInit
  selectedGlyph := Config.glyphDefault
  prevSw := false
  faults := FaultSet.empty
  keyResult := Config.noKey
  colResult := 0
  modeResult := false
  adcResult := 0
  poll := Agenda.idle
  tick := Agenda.idle
  booted := false
  script := []
  turn := 0
  draws := 0

end Sys2Proof.Machine
end

