-- ==== Sys2Proof/Machine/Operands.lean ====
section
/-! DEFINITION. The operand forms and encoded values of 30_encoding, and the bit and digit helpers the
operations share. -/

namespace Sys2Proof.Machine

/-! ## One-hot lines and bits of a 4-bit field -/

/-- `onehot(s) = 1 << s` (30_encoding R87). -/
def onehot (i : BitVec 2) : BitVec 4 := 1#4 <<< i.toNat

/-- `v[i]` (00_scope R7). -/
def bitAt (v : BitVec 4) (i : BitVec 2) : Bool := v.getLsbD i.toNat

/-- `v[i] <- b` (00_scope R7). -/
def setBitAt (v : BitVec 4) (i : BitVec 2) (b : Bool) : BitVec 4 :=
  if b then v ||| onehot i else v &&& ~~~ onehot i

/-- `flip(row) = 1 - row` (30_encoding R94). -/
def flipLane : Lane → Lane
  | .top => .bottom
  | .bottom => .top

/-! ## KeyCode (30_encoding R83, R84) -/

/-- `KeyCode = ((row + KEY_BASE) << 4) | (col + KEY_BASE)` (30_encoding R83). -/
def keyCode (row col : BitVec 2) : Byte :=
  ((row.setWidth 8 + Config.keyBase) <<< 4) ||| (col.setWidth 8 + Config.keyBase)

/-- The KeyCode of key number n = 4*row + col of the matrix. -/
def codeOfKey (n : Fin 16) : Byte :=
  keyCode (BitVec.ofNat 2 (n.val / 4)) (BitVec.ofNat 2 (n.val % 4))

/-- K_PLAY (44_game_loop R182, OPEN). -/
def kPlay : Byte := codeOfKey (Config.menuKeys 0)

/-- K_EXIT (44_game_loop R182, OPEN). -/
def kExit : Byte := codeOfKey (Config.menuKeys 1)

/-- K_STORE (44_game_loop R182, OPEN). -/
def kStore : Byte := codeOfKey (Config.menuKeys 2)

/-- K_TIER[t] (44_game_loop R183, OPEN). -/
def kTier (t : BitVec 1) : Byte := codeOfKey (Config.tierKeys (if t = 0 then 0 else 1))

/-- K_BUY[i] (44_game_loop R191, OPEN). -/
def kBuy (i : Fin 3) : Byte := codeOfKey (Config.storeKeys (i.castLE (by decide)))

/-- K_BACK (44_game_loop R191, OPEN). -/
def kBack : Byte := codeOfKey (Config.storeKeys 3)

/-! ## Format R operands with illegal values (30_encoding R82) -/

/-- ENT_ADVANCE's operand: 0 = collectible, 1 = hazard, 2 and 3 illegal. -/
def entityOfOperand (e : BitVec 2) : Option Entity :=
  if e = 0 then some .collectible else if e = 1 then some .hazard else none

/-- STORE_PURCHASE's operand: glyph index 0..2, 3 illegal. -/
def glyphOfOperand (i : BitVec 2) : Option (Fin 3) :=
  if h : i.toNat < 3 then some ⟨i.toNat, h⟩ else none

/-! ## Decimal digits and segment patterns -/

/-- `place(v, p)`, p = 3, 2, 1, 0 for thousands, hundreds, tens, ones (30_encoding R88). -/
def place (v p : Nat) : Nat :=
  match p with
  | 0 => v % 10
  | 1 => v / 10 % 10
  | 2 => v / 100 % 10
  | _ => v / 1000

/-- `digit(v, s) = place(v, SLOT_PLACE(s))` (42_display_mux R141). -/
def digit (v : Nat) (s : BitVec 2) : Nat := place v (Config.slotPlace s)

/-- `SegRead(d)`: the Segment Table entry of digit d, none where there is no entry (42_display_mux R142,
20_memory R60). -/
def segRead (d : Nat) : Option (BitVec 7) := Config.segTable[d]?

/-! ## The keypad's column network -/

/-- `Key[row][col]` (10_state R34). -/
def keyAt (k : KeyMatrix) (row col : BitVec 2) : Bool :=
  if row = 0 then bitAt k.row0 col
  else if row = 1 then bitAt k.row1 col
  else if row = 2 then bitAt k.row2 col
  else bitAt k.row3 col

/-- `Key[row][col] <- level` (43_keypad_scanner R174). -/
def setKeyAt (k : KeyMatrix) (row col : BitVec 2) (level : Bool) : KeyMatrix :=
  if row = 0 then { k with row0 := setBitAt k.row0 col level }
  else if row = 1 then { k with row1 := setBitAt k.row1 col level }
  else if row = 2 then { k with row2 := setBitAt k.row2 col level }
  else { k with row3 := setBitAt k.row3 col level }

/-- The keys of one row as seen on the columns while the row is selected or not. -/
def rowKeys (selected : Bool) (keys : BitVec 4) : BitVec 4 := if selected then keys else 0

/-- `ColSnapshot()[c] = OR over r of (ROW[r] AND Key[r][c])` (43_keypad_scanner R160; the ideal matrix is
the spec's own general knowledge, D22, D41). -/
def colSnapshot (row : BitVec 4) (k : KeyMatrix) : BitVec 4 :=
  rowKeys (bitAt row 0) k.row0 ||| rowKeys (bitAt row 1) k.row1 |||
    rowKeys (bitAt row 2) k.row2 ||| rowKeys (bitAt row 3) k.row3

/-- The least c with cols[c] = 1 (43_keypad_scanner R161, R166). -/
def leastColumn (cols : BitVec 4) : BitVec 2 :=
  if bitAt cols 0 then 0 else if bitAt cols 1 then 1 else if bitAt cols 2 then 2 else 3

/-- The rows a RELEASE_WAIT selects for an accepted row r, over the ROW lines as they stand
(43_keypad_scanner R168). -/
def releaseSelect (mode : ReleaseRows) (r : BitVec 2) (row : BitVec 4) : BitVec 4 :=
  match mode with
  | .accepted => setBitAt row r true
  | .all => 0xF#4

end Sys2Proof.Machine
end

