-- ==== Sys2Proof/Machine/Flags.lean ====
section
/-! DEFINITION. The tests and counts behind the status flags of 10_state R41 (TickRun, TickPending,
GlowArmed, AlarmArmed) and the enabling conditions of 46_arithmetic_and_sequencing R200 and R202. -/

namespace Sys2Proof.Machine

/-- TMR_FIRE on the pending flag: set while the timer runs, otherwise the timer has no step (40_tick_source
R101). -/
def pendingAfterFire (tickRun pending : Bool) : Bool := if tickRun then true else pending

/-- The wrap test of PACE_STEP: `PaceCount + 1 >= EFFECT_DIV` (40_tick_source R103). -/
def effectTickDue (paceCount : Nat) : Bool := paceCount + 1 ≥ Config.effectDiv

/-- `if GlowCount > 0 then GlowCount - 1` (41_blink_effects R122). -/
def glowCountDown (count : Nat) : Nat := if count > 0 then count - 1 else count

/-- `AlarmCount >= ALARM_BUDGET` (41_blink_effects R125). -/
def alarmBudgetReached (count : Nat) : Bool := count ≥ Config.alarmBudget

/-- `v > DV_MAX` (42_display_mux R146). -/
def outOfRange (v : BitVec dvWidth) : Bool := v.toNat > Config.dvMax

/-- An entity in the player's cell (44_game_loop R188, R189). -/
def inPlayerCell (e : Pos) (playerRow : Lane) : Bool :=
  e.row = playerRow ∧ e.col = Config.playerCol

/-- Whether a switch transition flips the player's row (44_game_loop R186). -/
def edgeFlips (edge : SwitchEdge) (prev now : Bool) : Bool :=
  match edge with
  | .rising => !prev && now
  | .both => prev != now

end Sys2Proof.Machine
end

