-- ==== Sys2Proof/Machine/Ops.lean ====
section
/-! DEFINITION. The named operations the instructions share: raising a fault, entering and leaving the
tick handler, reading and writing the cells of the Shared State Surface, the keypad lines and the inputs. -/

namespace Sys2Proof.Machine

/-! ## Taking an exception: `raise F(info)` (00_scope R8, 60_exceptions R221) -/

/-- A value added to a strictly rising list, which stays so. -/
def insertValue (n : Nat) : List Nat → List Nat
  | [] => [n]
  | m :: ms => if n < m then n :: m :: ms else if n = m then m :: ms else m :: insertValue n ms

/-- A fault added to the set; a fault already there leaves it as it is. -/
def FaultSet.add (f : FaultSet) : FaultName → FaultSet
  | .displayRange v => { f with displayRange := insertValue v f.displayRange }
  | .segIndex d => { f with segIndex := insertValue d f.segIndex }
  | .bootOrder => { f with bootOrder := true }

/-- Whether a fault is in the set. -/
def FaultSet.holds (f : FaultSet) : FaultName → Bool
  | .displayRange v => f.displayRange.contains v
  | .segIndex d => f.segIndex.contains d
  | .bootOrder => f.bootOrder

/-- `raise F(info)`: the fault is recorded; ending the operation and its callers is the agenda's part
(`Ctl.raised`). -/
def raise (f : FaultName) (s : State) : State := { s with faults := s.faults.add f }

/-! ## How a micro-step leaves the task it belongs to -/

/-- What follows a micro-step of a task: the task is done, it has another micro-step, it is replaced by the
parts of a composite, it cannot step now (`await`), or a fault ends the whole chain of composites
(46_arithmetic_and_sequencing R202). -/
inductive Ctl (α : Type) where
  | done
  | again
  | into (parts : List α)
  | hold
  | raised
deriving DecidableEq, Repr

/-! ## The interrupt (60_exceptions R224 to R227) -/

/-- Handler entry: saves and changes nothing but that the handler's sequence PACE_STEP, MUX_STEP, IRQ_ACK is
now to be run (60_exceptions R226, 40_tick_source R102). -/
def enterHandler (s : State) : State := { s with tick := ⟨[.pace, .mux, .ack], 0⟩ }

/-- Handler return: `TickPending <- 0` (40_tick_source R105, 60_exceptions R227). -/
def acknowledge (s : State) : State := { s with tickPending := false }

/-- One firing of the timer (40_tick_source R101). -/
def fireTimer (s : State) : State := { s with tickPending := pendingAfterFire s.tickRun s.tickPending }

/-! ## Shared State Surface cells (20_memory R61, R64: each access one whole cell) -/

/-- `MemWrite(DisplayValue, DV_WIDTH, v)` (42_display_mux R140). -/
def writeDisplay (v : BitVec dvWidth) (s : State) : State := { s with displayValue := v }

/-- The words above DV_MAX, numbered round and round: what is stored of a Currency that does not fit the word is one
of them, since a Currency beyond DV_MAX leads to DisplayRange at the next tick (44_game_loop R193, 93 U21). -/
def overflowWord (n : Nat) : BitVec dvWidth :=
  BitVec.ofNat dvWidth (Config.dvMax + 1 + n % (2 ^ dvWidth - (Config.dvMax + 1)))

/-- `DV_WRITE Currency`: the value as it is where it fits the word, a free value above DV_MAX where it does not
(44_game_loop R193; log 15). -/
def writeDisplayCurrency (s : State) : State :=
  if s.currency < 2 ^ dvWidth then writeDisplay (BitVec.ofNat dvWidth s.currency) s
  else writeDisplay (overflowWord (Config.freeDisplay s.draws)) { s with draws := s.draws + 1 }

/-! ## Lines -/

/-- `ROW[r] <- level` (43_keypad_scanner R162, R165). -/
def setRow (r : BitVec 2) (level : Bool) (s : State) : State := { s with row := setBitAt s.row r level }

/-- The column inputs at this instant (43_keypad_scanner R160). -/
def State.columns (s : State) : BitVec 4 := colSnapshot s.row s.key

/-- `cols = ColSnapshot()`, kept as what COL_SAMPLE returned (43_keypad_scanner R164). -/
def sampleColumns (s : State) : State := { s with colResult := s.columns }

/-- `s = SwLevel()`, kept as what MODE_READ returned (44_game_loop R195). -/
def readSwitch (s : State) : State := { s with modeResult := s.sw }

/-- `Key[row][col] <- level` (43_keypad_scanner R174). -/
def setKey (level : Bool) (row col : BitVec 2) (s : State) : State :=
  { s with key := setKeyAt s.key row col level }

/-- `Sw <- level` (44_game_loop R196). -/
def setSwitch (level : Bool) (s : State) : State := { s with sw := level }

end Sys2Proof.Machine
end

