-- ==== Sys2Proof/Machine/Blink.lean ====
section
/-! DEFINITION. The micro-steps of the Blink-Effect Timers, Glow and Alarm (41_blink_effects). -/

namespace Sys2Proof.Machine

/-- GLOW_TRIGGER (R121), three micro-steps: pin, count, armed. -/
def glowTriggerStep (stage : Nat) (s : State) : State × Ctl Task :=
  match stage with
  | 0 => ({ s with glowPin := true }, .again)
  | 1 => ({ s with glowCount := Config.glowDuration }, .again)
  | _ => ({ s with glowArmed := true }, .done)

/-- ALARM_TRIGGER (R124), three micro-steps: pin, count, armed. -/
def alarmTriggerStep (stage : Nat) (s : State) : State × Ctl Task :=
  match stage with
  | 0 => ({ s with alarmPin := true }, .again)
  | 1 => ({ s with alarmCount := 0 }, .again)
  | _ => ({ s with alarmArmed := true }, .done)

/-- GLOW_STEP (R122). -/
def glowStep (s : State) : State × Ctl TickTask :=
  if s.glowArmed then
    if glowCountDown s.glowCount = 0 then
      ({ s with glowCount := 0, glowPin := false, glowArmed := false }, .done)
    else ({ s with glowCount := glowCountDown s.glowCount }, .done)
  else (s, .done)

/-- ALARM_STEP (R125): the flip is a micro-step of its own, since the pin shows it (R125 case b); then the
count and, at the budget, the forced pin. -/
def alarmStep (stage : Nat) (s : State) : State × Ctl TickTask :=
  match stage with
  | 0 => if s.alarmArmed then ({ s with alarmPin := !s.alarmPin }, .again) else (s, .done)
  | _ =>
    if alarmBudgetReached (s.alarmCount + 1) then
      ({ s with alarmCount := s.alarmCount + 1, alarmPin := false, alarmArmed := false }, .done)
    else ({ s with alarmCount := s.alarmCount + 1 }, .done)

end Sys2Proof.Machine
end

