-- ==== Sys2Proof/Machine/Collaborators.lean ====
section
/-! DEFINITION. The micro-steps of the calls to the external collaborators (45_external_collaborators). Each
returns after an unspecified time, during which the other agents may move; the call itself is one micro-step. -/

namespace Sys2Proof.Machine

/-- PIN_CONFIG (R210): `PinsConfigured <- 1`; a second one has no effect. -/
def pinConfigStep (s : State) : State × Ctl Task := ({ s with pinsConfigured := true }, .done)

/-- LCD_CMD, LCD_GLYPH, LCD_CURSOR, AUDIO_PULSE and the quiz gate (R211, R212, R213, R215, 44_game_loop
R181): no effect on the state of the spec. -/
def callStep (_ : Collab) (s : State) : State × Ctl Task := (s, .done)

/-- ADC_READ id (R214): returns a draw, any integer (log 16). -/
def adcReadStep (id : Byte) (s : State) : State × Ctl Task :=
  ({ s with adcResult := Config.adcSample id s.draws, draws := s.draws + 1 }, .done)

end Sys2Proof.Machine
end

