-- ==== Sys2Proof/Machine/Display.lean ====
section
/-! DEFINITION. The micro-steps of the Display Multiplexer (42_display_mux). -/

namespace Sys2Proof.Machine

/-- DV_WRITE v (R140): one atomic write of v, zero-extended. -/
def dvWriteStep (v : BitVec 16) (s : State) : State × Ctl Task :=
  (writeDisplay (v.setWidth dvWidth) s, .done)

/-- `DV_WRITE Currency` of the Game Loop (44_game_loop R182, R188, R192). -/
def dvCurrencyStep (s : State) : State × Ctl Task := (writeDisplayCurrency s, .done)

/-- Writes 2 and 3 of MUX_STEP: DisplayValue is read once, checked, and the pattern of the current slot's
digit is driven (R143, R146, R142). -/
def muxPattern (s : State) : State × Ctl TickTask :=
  if outOfRange s.displayValue then (raise (.displayRange s.displayValue.toNat) s, .raised)
  else
    match segRead (digit s.displayValue.toNat s.digitSlot) with
    | some pattern => ({ s with seg := pattern }, .again)
    | none => (raise (.segIndex (digit s.displayValue.toNat s.digitSlot)) s, .raised)

/-- MUX_STEP (R143): blank, pattern, one anode, advance, each visible on the pins in that order. -/
def muxStep (stage : Nat) (s : State) : State × Ctl TickTask :=
  match stage with
  | 0 => ({ s with an := 0 }, .again)
  | 1 => muxPattern s
  | 2 => ({ s with an := onehot s.digitSlot }, .again)
  | _ => ({ s with digitSlot := s.digitSlot + 1 }, .done)

end Sys2Proof.Machine
end

