-- ==== Sys2Proof/Machine/Game.lean ====
section
/-! DEFINITION. The micro-steps of the Game Loop (44_game_loop). -/

namespace Sys2Proof.Machine

/-- MODE_READ (R195). -/
def modeReadStep (s : State) : State × Ctl Task := (readSwitch s, .done)

/-- GAME_BOOT (R181): pin configuration, tick source, quiz gate, Menu. -/
def gameBootStep (s : State) : State × Ctl Task :=
  (s, .into [.pinConfig, .tickStart, .call .quizGate, .enterLoop])

/-- `GameState <- Menu`, the end of GAME_BOOT (R181). -/
def enterLoopStep (s : State) : State × Ctl Task :=
  ({ s with gameState := .menu, booted := true }, .done)

/-- MENU_ITER (R182). -/
def menuIterStep (s : State) : State × Ctl Task := (s, .into [.dvCurrency, .keyScan, .menuRoute])

/-- GAME_EXIT (R194). -/
def gameExitStep (s : State) : State × Ctl Task := ({ s with gameState := .exit }, .done)

/-- The test of the key code in Menu (R182). -/
def menuRouteStep (s : State) : State × Ctl Task :=
  if s.keyResult = kPlay then ({ s with gameState := .modeSelect }, .done)
  else if s.keyResult = kExit then (s, .into [.gameExit])
  else if s.keyResult = kStore then ({ s with gameState := .store }, .done)
  else (s, .done)

/-- MODESEL_ITER (R183). -/
def modeselIterStep (s : State) : State × Ctl Task := (s, .into [.keyScan, .modeselRoute])

/-- The test of the key code in ModeSelect (R183). -/
def modeselRouteStep (s : State) : State × Ctl Task :=
  if s.keyResult = kTier 0 then ({ s with speedTier := 0 }, .into [.playEnter])
  else if s.keyResult = kTier 1 then ({ s with speedTier := 1 }, .into [.playEnter])
  else (s, .done)

/-- PLAY_ENTER (R184). -/
def playEnterStep (s : State) : State × Ctl Task :=
  let s1 := readSwitch s
  ({ s1 with
      playerRow := Config.playerRow0
      collect := Config.collectInit
      hazard := Config.hazardInit
      prevSw := s1.modeResult
      gameState := .playing }, .done)

/-- PLAY_STEP (R185). -/
def playStepStep (s : State) : State × Ctl Task :=
  (s, .into [.swEdge, .call .lcdText, .entAdvance .collectible, .entAdvance .hazard, .call .lcdText,
    .collectCheck, .hazardCheck, .stepEnd])

/-- `if GameState = Playing then WAIT STEP_DELAY[SpeedTier]` (R185, R190). -/
def stepEndStep (s : State) : State × Ctl Task :=
  match s.gameState with
  | .playing => (s, .into [.delay (.step s.speedTier)])
  | _ => (s, .done)

/-- SW_EDGE (R186). -/
def swEdgeStep (s : State) : State × Ctl Task :=
  let s1 := readSwitch s
  let flips := edgeFlips Config.switchEdge s.prevSw s1.modeResult
  ({ s1 with
      playerRow := if flips then flipLane s.playerRow else s.playerRow
      prevSw := s1.modeResult }, .done)

/-- The advance of one entity: `col - 1`, or from 0 to 15 with the row flipped (R187). -/
def advancePos (p : Pos) : Pos :=
  if p.col = 0 then ⟨flipLane p.row, 15⟩ else ⟨p.row, p.col - 1⟩

/-- ENT_ADVANCE e (R187). -/
def entAdvanceStep (e : Entity) (s : State) : State × Ctl Task :=
  match e with
  | .collectible => ({ s with collect := advancePos s.collect }, .done)
  | .hazard => ({ s with hazard := advancePos s.hazard }, .done)

/-- COLLECT_CHECK (R188). -/
def collectCheckStep (s : State) : State × Ctl Task :=
  if inPlayerCell s.collect s.playerRow then
    ({ s with currency := s.currency + 1 }, .into [.dvCurrency, .call .audioPulse, .glowTrigger])
  else (s, .done)

/-- HAZARD_CHECK (R189). -/
def hazardCheckStep (s : State) : State × Ctl Task :=
  if inPlayerCell s.hazard s.playerRow then
    (s, .into [.call .audioPulse, .alarmTrigger, .call .lcdText, .delay .lossHold, .lossEnd])
  else (s, .done)

/-- `GameState <- Menu` after a loss (R189). -/
def lossEndStep (s : State) : State × Ctl Task := ({ s with gameState := .menu }, .done)

/-- STORE_ITER (R191). -/
def storeIterStep (s : State) : State × Ctl Task := (s, .into [.call .lcdText, .keyScan, .storeRoute])

/-- The test of the key code in Store (R191). -/
def storeRouteStep (s : State) : State × Ctl Task :=
  if s.keyResult = kBuy 0 then (s, .into [.storePurchase 0])
  else if s.keyResult = kBuy 1 then (s, .into [.storePurchase 1])
  else if s.keyResult = kBuy 2 then (s, .into [.storePurchase 2])
  else if s.keyResult = kBack then ({ s with gameState := .menu }, .done)
  else (s, .done)

/-- STORE_PURCHASE i (R192): rejected below the price, else debited. -/
def storePurchaseStep (i : Fin 3) (s : State) : State × Ctl Task :=
  if s.currency < Config.price i then (s, .into [.call .lcdText])
  else ({ s with currency := s.currency - Config.price i }, .into [.dvCurrency, .recordGlyph i])

/-- `SelectedGlyph <- GLYPH[i]` (R192). -/
def recordGlyphStep (i : Fin 3) (s : State) : State × Ctl Task :=
  ({ s with selectedGlyph := Config.glyph i }, .done)

/-- The task the Game Loop does next between two operations: in Exit nothing; else GAME_BOOT once, then the
iteration GameState selects (R180, R181, R194, 46_arithmetic_and_sequencing R202). -/
def gameLoopNext (s : State) : List Task :=
  match s.gameState with
  | .exit => []
  | .menu => if s.booted then [.menuIter] else [.gameBoot]
  | .modeSelect => if s.booted then [.modeselIter] else [.gameBoot]
  | .playing => if s.booted then [.playStep] else [.gameBoot]
  | .store => if s.booted then [.storeIter] else [.gameBoot]

end Sys2Proof.Machine
end

