-- ==== Sys2Proof/Machine/Keypad.lean ====
section
/-! DEFINITION. The micro-steps of the Keypad Scanner (43_keypad_scanner). -/

namespace Sys2Proof.Machine

/-- ROW_DRIVE r (R162). -/
def rowDriveStep (r : BitVec 2) (s : State) : State × Ctl Task := (setRow r true s, .done)

/-- ROW_RESTORE r (R165). -/
def rowRestoreStep (r : BitVec 2) (s : State) : State × Ctl Task := (setRow r false s, .done)

/-- COL_SAMPLE (R164). -/
def colSampleStep (s : State) : State × Ctl Task := (sampleColumns s, .done)

/-- SETTLE_WAIT, QUIET_WAIT, WAIT and the Game Loop's fixed delays (R163, R169, R216): `delay(T)` changes no
state; the other agents may move before and after it (00_scope R8, R10). -/
def delayStep (_ : Delay) (s : State) : State × Ctl Task := (s, .done)

/-- The rows selected for the release-wait (R168); with no accepted key and RELEASE_ROWS = accepted they are
a free value (log 14). -/
def selectReleaseRows (s : State) : State :=
  match s.ksHit, Config.releaseRows with
  | some (r, _), mode => { s with row := releaseSelect mode r s.row }
  | none, .all => { s with row := 0xF#4 }
  | none, .accepted => { s with row := Config.freeRows s.draws, draws := s.draws + 1 }

/-- RELEASE_WAIT (R168): select, `await ColSnapshot() = 0000`, restore all rows. -/
def releaseWaitStep (stage : Nat) (s : State) : State × Ctl Task :=
  match stage with
  | 0 => (selectReleaseRows s, .again)
  | 1 => if s.columns = 0 then (s, .again) else (s, .hold)
  | _ => ({ s with row := 0 }, .done)

/-- One round of the scan loop (R161). -/
def scanRound : List Task := [.scanDrive, .scanSettle, .scanSample, .scanRestore]

/-- The start of KEY_SCAN (R161): BootOrder without PinsConfigured, else the first row. -/
def keyScanStep (s : State) : State × Ctl Task :=
  if s.pinsConfigured then
    ({ s with ksHit := none, ksRow := 0, ksPhase := .drive }, .into scanRound)
  else (raise .bootOrder s, .raised)

/-- `ROW_DRIVE r` of the scan loop, r = ROW_ORDER[KS_ROW] (R161). KS_PHASE becomes KS_SETTLE in this step, so
that it names the part to come; in which micro-step it changes is the model's choice (DESIGN CHOICE, safe; log 27). -/
def scanDriveStep (s : State) : State × Ctl Task :=
  ({ setRow (Config.rowOrder s.ksRow) true s with ksPhase := .settle }, .done)

/-- SETTLE_WAIT of the scan loop (R161). KS_PHASE becomes KS_SAMPLE in this step (DESIGN CHOICE, safe; log 27). -/
def scanSettleStep (s : State) : State × Ctl Task := ({ s with ksPhase := .sample }, .done)

/-- `cols = COL_SAMPLE` of the scan loop (R161). -/
def scanSampleStep (s : State) : State × Ctl Task := (sampleColumns s, .done)

/-- `ROW_RESTORE r`, then the test of the sample: a hit takes the least column and goes to the
release-wait; no hit goes to the next row or, after the last, returns NOKEY (R161, R166, R167). KS_PHASE becomes
KS_RELEASE, KS_DRIVE or KS_IDLE in this step (DESIGN CHOICE, safe; log 27). -/
def scanRestoreStep (s : State) : State × Ctl Task :=
  let r := Config.rowOrder s.ksRow
  let s1 := setRow r false s
  if s.colResult = 0 then
    if s.ksRow = 3 then ({ s1 with ksPhase := .idle, keyResult := Config.noKey }, .done)
    else ({ s1 with ksRow := s.ksRow + 1, ksPhase := .drive }, .into scanRound)
  else
    ({ s1 with ksHit := some (r, leastColumn s.colResult), ksPhase := .release },
      .into [.releaseWait, .scanQuiet, .scanReturn])

/-- QUIET_WAIT of KEY_SCAN (R161, R169). KS_PHASE becomes KS_QUIET in this step and not in the last one of
RELEASE_WAIT, which writes ROW alone, so QUIET_WAIT is begun with KS_PHASE = KS_RELEASE (DESIGN CHOICE, safe;
log 27). -/
def scanQuietStep (s : State) : State × Ctl Task := ({ s with ksPhase := .quiet }, .done)

/-- `return KeyCode(KS_HIT)` (R161, R170). -/
def scanReturnStep (s : State) : State × Ctl Task :=
  match s.ksHit with
  | some (r, c) => ({ s with ksPhase := .idle, keyResult := keyCode r c }, .done)
  | none => ({ s with ksPhase := .idle, keyResult := Config.noKey }, .done)

end Sys2Proof.Machine
end

