-- ==== Sys2Proof/Machine/Tick.lean ====
section
/-! DEFINITION. The micro-steps of the Periodic Tick Source (40_tick_source). -/

namespace Sys2Proof.Machine

/-- TICK_START (R100): `if PinsConfigured = 0 then raise BootOrder; TickRun <- 1`. -/
def tickStartStep (s : State) : State × Ctl Task :=
  if s.pinsConfigured then ({ s with tickRun := true }, .done) else (raise .bootOrder s, .raised)

/-- PACE_STEP (R103): wraps to 0 and runs EFFECT_TICK, or counts up. -/
def paceStep (s : State) : State × Ctl TickTask :=
  if effectTickDue s.paceCount then ({ s with paceCount := 0 }, .into [.effect])
  else ({ s with paceCount := s.paceCount + 1 }, .done)

/-- EFFECT_TICK (R104): GLOW_STEP, then ALARM_STEP. -/
def effectStep (s : State) : State × Ctl TickTask := (s, .into [.glow, .alarm])

/-- IRQ_ACK (R105). -/
def ackStep (s : State) : State × Ctl TickTask := (acknowledge s, .done)

end Sys2Proof.Machine
end

