-- ==== Sys2Proof/Machine/Agenda.lean ====
section
/-! DEFINITION. How the two contexts work through their tasks, micro-step by micro-step, and how an
operation is performed whole (00_scope R8, R11, 20_memory R67, R68, 46_arithmetic_and_sequencing R202). -/

namespace Sys2Proof.Machine

/-! ## One micro-step -/

/-- The effect of the polling context's next micro-step: task and stage to the change it makes. -/
def taskStep (t : Task) (stage : Nat) (s : State) : State × Ctl Task :=
  match t with
  | .tickStart => tickStartStep s
  | .dvWrite v => dvWriteStep v s
  | .dvCurrency => dvCurrencyStep s
  | .glowTrigger => glowTriggerStep stage s
  | .alarmTrigger => alarmTriggerStep stage s
  | .keyScan => keyScanStep s
  | .scanDrive => scanDriveStep s
  | .scanSettle => scanSettleStep s
  | .scanSample => scanSampleStep s
  | .scanRestore => scanRestoreStep s
  | .scanQuiet => scanQuietStep s
  | .scanReturn => scanReturnStep s
  | .rowDrive r => rowDriveStep r s
  | .colSample => colSampleStep s
  | .rowRestore r => rowRestoreStep r s
  | .releaseWait => releaseWaitStep stage s
  | .delay d => delayStep d s
  | .modeRead => modeReadStep s
  | .gameBoot => gameBootStep s
  | .enterLoop => enterLoopStep s
  | .menuIter => menuIterStep s
  | .menuRoute => menuRouteStep s
  | .modeselIter => modeselIterStep s
  | .modeselRoute => modeselRouteStep s
  | .playEnter => playEnterStep s
  | .playStep => playStepStep s
  | .stepEnd => stepEndStep s
  | .swEdge => swEdgeStep s
  | .entAdvance e => entAdvanceStep e s
  | .collectCheck => collectCheckStep s
  | .hazardCheck => hazardCheckStep s
  | .lossEnd => lossEndStep s
  | .storeIter => storeIterStep s
  | .storeRoute => storeRouteStep s
  | .storePurchase i => storePurchaseStep i s
  | .recordGlyph i => recordGlyphStep i s
  | .gameExit => gameExitStep s
  | .pinConfig => pinConfigStep s
  | .call c => callStep c s
  | .adcRead id => adcReadStep id s

/-- The effect of the interrupt context's next micro-step. -/
def tickTaskStep (t : TickTask) (stage : Nat) (s : State) : State × Ctl TickTask :=
  match t with
  | .pace => paceStep s
  | .effect => effectStep s
  | .glow => glowStep s
  | .alarm => alarmStep stage s
  | .mux => muxStep stage s
  | .ack => ackStep s

/-- The agenda after a micro-step of its first task `t`; none where the micro-step could not be taken. -/
def Ctl.agenda {α : Type} (t : α) (rest : List α) (stage : Nat) : Ctl α → Option (Agenda α)
  | .done => some ⟨rest, 0⟩
  | .again => some ⟨t :: rest, stage + 1⟩
  | .into parts => some ⟨parts ++ rest, 0⟩
  | .hold => none
  | .raised => some Agenda.idle

/-- One micro-step of the polling context; none where it has none, being between two operations or in a
hold (`await`). -/
def pollStep (s : State) : Option State :=
  match s.poll.todo with
  | [] => none
  | t :: rest =>
    match (taskStep t s.poll.stage s).2.agenda t rest s.poll.stage with
    | some a => some { (taskStep t s.poll.stage s).1 with poll := a }
    | none => none

/-- One micro-step of the interrupt context inside a handler; none where no handler is in progress. -/
def tickStep (s : State) : Option State :=
  match s.tick.todo with
  | [] => none
  | t :: rest =>
    match (tickTaskStep t s.tick.stage s).2.agenda t rest s.tick.stage with
    | some a => some { (tickTaskStep t s.tick.stage s).1 with tick := a }
    | none => none

/-! ## Turns: one move of one agent (46_arithmetic_and_sequencing R202) -/

/-- A turn of the interrupt context: the next micro-step of the handler in progress, or the entry of one while
TickPending = 1 (60_exceptions R226), or nothing. -/
def interruptTurn (s : State) : State :=
  match s.tick.todo with
  | [] => if s.tickPending then enterHandler s else s
  | _ :: _ => (tickStep s).getD s

/-- A turn of the polling context: nothing while the handler runs (20_memory R68 a), else its next micro-step,
or between two operations the Game Loop's next one, or nothing (a hold, or Exit). -/
def pollingTurn (s : State) : State :=
  match s.tick.todo, s.poll.todo with
  | _ :: _, _ => s
  | [], [] => { s with poll := ⟨gameLoopNext s, 0⟩ }
  | [], _ :: _ => (pollStep s).getD s

/-- A turn of the agent named (00_scope R5). -/
def takeTurn (m : Mover) (s : State) : State :=
  match m with
  | .timer => fireTimer s
  | .interrupt => interruptTurn s
  | .polling => pollingTurn s
  | .key level row col => setKey level row col s
  | .switch level => setSwitch level s

/-! ## Operations performed whole: no other agent moves meanwhile -/

/-- At most this many micro-steps are taken for one task; the longest, MENU_ITER, STORE_ITER and
MODESEL_ITER with a KEY_SCAN, take fewer. -/
def taskFuel : Nat := 64

/-- The polling context takes micro-steps until it has none left, or is in a hold. -/
def drainPoll : Nat → State → State
  | 0, s => s
  | n + 1, s =>
    match pollStep s with
    | some s' => drainPoll n s'
    | none => s

/-- The interrupt context takes micro-steps until the handler has ended. -/
def drainTick : Nat → State → State
  | 0, s => s
  | n + 1, s =>
    match tickStep s with
    | some s' => drainTick n s'
    | none => s

/-- The handler in progress, if any, runs to completion: nothing else of the two contexts may come inside it
(20_memory R68 a, 40_tick_source R106). -/
def finishTick (s : State) : State := drainTick (taskFuel * s.tick.todo.length) s

/-- A task put behind those an agent already has. -/
def Agenda.push {α : Type} (a : Agenda α) (t : α) : Agenda α :=
  match a.todo with
  | [] => ⟨[t], 0⟩
  | u :: us => ⟨u :: us ++ [t], a.stage⟩

/-- The polling context is given an operation to begin when it has ended those before it. -/
def givePoll (t : Task) (s : State) : State := { s with poll := s.poll.push t }

/-- The polling context goes on until it is between two operations or in a hold. -/
def finishPoll (s : State) : State := drainPoll (taskFuel * s.poll.todo.length) s

/-- An operation of the polling context performed whole: a handler in progress ends first, what the context
had begun before comes before it, and then its own micro-steps run to its end or to a hold (log 3, 8). -/
def performPoll (t : Task) (s : State) : State := finishPoll (givePoll t (finishTick s))

/-- A sequence of the interrupt context performed whole, after a handler in progress has ended (log 5). -/
def performTick (ts : List TickTask) (s : State) : State :=
  finishTick { finishTick s with tick := ⟨ts, 0⟩ }

/-- TICK_HANDLER performed whole: after a handler in progress has ended, and only while TickPending = 1
(40_tick_source R102; log 4). -/
def performHandler (s : State) : State :=
  if (finishTick s).tickPending then finishTick (enterHandler (finishTick s)) else finishTick s

end Sys2Proof.Machine
end

