-- ==== Sys2Proof/Machine/ExecBlink.lean ====
section
/-! DEFINITION. The meanings of the operations of 41_blink_effects. -/

namespace Sys2Proof.Machine

/-- GLOW_STEP (R122) by the interrupt context (log 5). -/
def execGlowStep (s : State) : Host.Outcome State Fault Refusal :=
  .next (performTick [.glow] s)

/-- ALARM_STEP (R125) by the interrupt context (log 5). -/
def execAlarmStep (s : State) : Host.Outcome State Fault Refusal :=
  .next (performTick [.alarm] s)

/-- GLOW_TRIGGER (R121), its three micro-steps with no handler in between; a handler in between is a
script of turns (R126; log 3). -/
def execGlowTrigger (s : State) : Host.Outcome State Fault Refusal :=
  .next (performPoll .glowTrigger s)

/-- ALARM_TRIGGER (R124), its three micro-steps with no handler in between; a handler in between is a
script of turns (R126; log 3). -/
def execAlarmTrigger (s : State) : Host.Outcome State Fault Refusal :=
  .next (performPoll .alarmTrigger s)


end Sys2Proof.Machine
end

