-- ==== Sys2Proof/Machine/ExecCollaborators.lean ====
section
/-! DEFINITION. The meanings of the operations of 45_external_collaborators. -/

namespace Sys2Proof.Machine

/-- PIN_CONFIG (R210). -/
def execPinConfig (s : State) : Host.Outcome State Fault Refusal :=
  .next (performPoll .pinConfig s)

/-- LCD_CMD b (R211): no effect on the state of the spec. -/
def execLcdCmd (b : Byte) (s : State) : Host.Outcome State Fault Refusal :=
  .next (performPoll (.call (.lcdCommand b)) s)

/-- LCD_GLYPH b (R212): no effect on the state of the spec. -/
def execLcdGlyph (b : Byte) (s : State) : Host.Outcome State Fault Refusal :=
  .next (performPoll (.call (.lcdGlyph b)) s)

/-- LCD_CURSOR row, col (R213): no effect on the state of the spec. -/
def execLcdCursor (row : BitVec 1) (col : BitVec 4) (s : State) : Host.Outcome State Fault Refusal :=
  .next (performPoll (.call (.lcdCursor row col)) s)

/-- ADC_READ id (R214). -/
def execAdcRead (id : Byte) (s : State) : Host.Outcome State Fault Refusal :=
  .next (performPoll (.adcRead id) s)

/-- AUDIO_PULSE (R215): no effect on the state of the spec. -/
def execAudioPulse (s : State) : Host.Outcome State Fault Refusal :=
  .next (performPoll (.call .audioPulse) s)

/-- WAIT d (R216). -/
def execWait (d : BitVec 16) (s : State) : Host.Outcome State Fault Refusal :=
  .next (performPoll (.delay (.wait d)) s)


end Sys2Proof.Machine
end

