-- ==== Sys2Proof/Machine/ExecDisplay.lean ====
section
/-! DEFINITION. The meanings of the operations of 42_display_mux. -/

namespace Sys2Proof.Machine

/-- MUX_STEP (R143) by the interrupt context (log 5). -/
def execMuxStep (s : State) : Host.Outcome State Fault Refusal :=
  .next (performTick [.mux] s)

/-- DV_WRITE v (R140). -/
def execDvWrite (v : BitVec 16) (s : State) : Host.Outcome State Fault Refusal :=
  .next (performPoll (.dvWrite v) s)


end Sys2Proof.Machine
end

