-- ==== Sys2Proof/Machine/ExecGame.lean ====
section
/-! DEFINITION. The meanings of the operations of 44_game_loop. A word of this group performs its operation
whatever GameState is (log 7). -/

namespace Sys2Proof.Machine

/-- MODE_READ (R195). -/
def execModeRead (s : State) : Host.Outcome State Fault Refusal :=
  .next (performPoll .modeRead s)

/-- GAME_BOOT (R181). -/
def execGameBoot (s : State) : Host.Outcome State Fault Refusal :=
  .next (performPoll .gameBoot s)

/-- MENU_ITER (R182). -/
def execMenuIter (s : State) : Host.Outcome State Fault Refusal :=
  .next (performPoll .menuIter s)

/-- MODESEL_ITER (R183). -/
def execModeselIter (s : State) : Host.Outcome State Fault Refusal :=
  .next (performPoll .modeselIter s)

/-- PLAY_ENTER (R184). -/
def execPlayEnter (s : State) : Host.Outcome State Fault Refusal :=
  .next (performPoll .playEnter s)

/-- PLAY_STEP (R185). -/
def execPlayStep (s : State) : Host.Outcome State Fault Refusal :=
  .next (performPoll .playStep s)

/-- SW_EDGE (R186). -/
def execSwEdge (s : State) : Host.Outcome State Fault Refusal :=
  .next (performPoll .swEdge s)

/-- ENT_ADVANCE e (R187); 2 and 3 are illegal operands (30_encoding R82). -/
def execEntAdvance (e : BitVec 2) (s : State) : Host.Outcome State Fault Refusal :=
  match entityOfOperand e with
  | some entity => .next (performPoll (.entAdvance entity) s)
  | none => .refused .illegalOperand

/-- COLLECT_CHECK (R188). -/
def execCollectCheck (s : State) : Host.Outcome State Fault Refusal :=
  .next (performPoll .collectCheck s)

/-- HAZARD_CHECK (R189). -/
def execHazardCheck (s : State) : Host.Outcome State Fault Refusal :=
  .next (performPoll .hazardCheck s)

/-- STORE_ITER (R191). -/
def execStoreIter (s : State) : Host.Outcome State Fault Refusal :=
  .next (performPoll .storeIter s)

/-- STORE_PURCHASE i (R192); 3 is an illegal operand (30_encoding R82). -/
def execStorePurchase (i : BitVec 2) (s : State) : Host.Outcome State Fault Refusal :=
  match glyphOfOperand i with
  | some glyph => .next (performPoll (.storePurchase glyph) s)
  | none => .refused .illegalOperand

/-- GAME_EXIT (R194). -/
def execGameExit (s : State) : Host.Outcome State Fault Refusal :=
  .next (performPoll .gameExit s)


end Sys2Proof.Machine
end

