-- ==== Sys2Proof/Machine/ExecKeypad.lean ====
section
/-! DEFINITION. The meanings of the operations of 43_keypad_scanner. A scanner primitive issued alone performs
its own micro-steps and nothing else (46_arithmetic_and_sequencing R203). -/

namespace Sys2Proof.Machine

/-- KEY_SCAN (R161): to its return, or to the hold of its release-wait, which only the environment lifts
(R168, R171). -/
def execKeyScan (s : State) : Host.Outcome State Fault Refusal :=
  .next (performPoll .keyScan s)

/-- ROW_DRIVE r (R162). -/
def execRowDrive (r : BitVec 2) (s : State) : Host.Outcome State Fault Refusal :=
  .next (performPoll (.rowDrive r) s)

/-- SETTLE_WAIT (R163). -/
def execSettleWait (s : State) : Host.Outcome State Fault Refusal :=
  .next (performPoll (.delay .settle) s)

/-- COL_SAMPLE (R164). -/
def execColSample (s : State) : Host.Outcome State Fault Refusal :=
  .next (performPoll .colSample s)

/-- ROW_RESTORE r (R165). -/
def execRowRestore (r : BitVec 2) (s : State) : Host.Outcome State Fault Refusal :=
  .next (performPoll (.rowRestore r) s)

/-- RELEASE_WAIT (R168): to its end, or to its hold. -/
def execReleaseWait (s : State) : Host.Outcome State Fault Refusal :=
  .next (performPoll .releaseWait s)

/-- QUIET_WAIT (R169). -/
def execQuietWait (s : State) : Host.Outcome State Fault Refusal :=
  .next (performPoll (.delay .quiet) s)


end Sys2Proof.Machine
end

