-- ==== Sys2Proof/Machine/ExecSystem.lean ====
section
/-! DEFINITION. The meanings of RESET (70_reset_and_hazards R250) and of the environment's moves (43_keypad_scanner
R174, 44_game_loop R196). -/

namespace Sys2Proof.Machine

/-- The state after RESET: every field of the block at its reset value, Faults empty, the environment's Key and
Sw as they were (R250, 10_state R46); what is still to be made of the run, and the counters of the free
values, are no fields of the block and stay (log 22). -/
def resetFrom (s : State) : State :=
  { State.reset with key := s.key, sw := s.sw, script := s.script, turn := s.turn, draws := s.draws }

/-- RESET (R250), a power-on: whatever the agents were doing is gone. -/
def execReset (s : State) : Host.Outcome State Fault Refusal :=
  .next (resetFrom s)

/-- ENV_KEY level, row, col (R174); it may fall anywhere, so nothing in progress is touched. -/
def execEnvKey (level : Bool) (row col : BitVec 2) (s : State) : Host.Outcome State Fault Refusal :=
  .next (setKey level row col s)

/-- ENV_SW level (R196); it may fall anywhere, so nothing in progress is touched. -/
def execEnvSw (level : Bool) (s : State) : Host.Outcome State Fault Refusal :=
  .next (setSwitch level s)


end Sys2Proof.Machine
end

