-- ==== Sys2Proof/Machine/ExecTick.lean ====
section
/-! DEFINITION. The meanings of the operations of 40_tick_source. -/

namespace Sys2Proof.Machine

/-- TMR_FIRE (R101): one firing; without TickRun the timer has no step (log 4). It may fall inside the
handler (20_memory R68 c), so a handler in progress is left as it is. -/
def execTmrFire (s : State) : Host.Outcome State Fault Refusal :=
  .next (fireTimer s)

/-- TICK_HANDLER (R102): one tick, performed whole; not enabled, nothing (log 4). -/
def execTickHandler (s : State) : Host.Outcome State Fault Refusal :=
  .next (performHandler s)

/-- PACE_STEP (R103) by the interrupt context (log 5). -/
def execPaceStep (s : State) : Host.Outcome State Fault Refusal :=
  .next (performTick [.pace] s)

/-- EFFECT_TICK (R104) by the interrupt context (log 5). -/
def execEffectTick (s : State) : Host.Outcome State Fault Refusal :=
  .next (performTick [.effect] s)

/-- IRQ_ACK (R105) by the interrupt context (log 5). -/
def execIrqAck (s : State) : Host.Outcome State Fault Refusal :=
  .next (performTick [.ack] s)

/-- TICK_START (R100). -/
def execTickStart (s : State) : Host.Outcome State Fault Refusal :=
  .next (performPoll .tickStart s)


end Sys2Proof.Machine
end

