-- ==== Sys2Proof/Machine/Dispatch.lean ====
section
/-! DEFINITION. One arm per operation of 30_encoding R93, each one call of its meaning. -/

namespace Sys2Proof.Machine

def exec (i : Instr) (s : State) : Host.Outcome State Fault Refusal :=
  match i with
  | .reset => Sys2Proof.Machine.execReset s
  | .tmrFire => Sys2Proof.Machine.execTmrFire s
  | .tickHandler => Sys2Proof.Machine.execTickHandler s
  | .paceStep => Sys2Proof.Machine.execPaceStep s
  | .effectTick => Sys2Proof.Machine.execEffectTick s
  | .glowStep => Sys2Proof.Machine.execGlowStep s
  | .alarmStep => Sys2Proof.Machine.execAlarmStep s
  | .muxStep => Sys2Proof.Machine.execMuxStep s
  | .irqAck => Sys2Proof.Machine.execIrqAck s
  | .tickStart => Sys2Proof.Machine.execTickStart s
  | .dvWrite v => Sys2Proof.Machine.execDvWrite v s
  | .glowTrigger => Sys2Proof.Machine.execGlowTrigger s
  | .alarmTrigger => Sys2Proof.Machine.execAlarmTrigger s
  | .keyScan => Sys2Proof.Machine.execKeyScan s
  | .rowDrive r => Sys2Proof.Machine.execRowDrive r s
  | .settleWait => Sys2Proof.Machine.execSettleWait s
  | .colSample => Sys2Proof.Machine.execColSample s
  | .rowRestore r => Sys2Proof.Machine.execRowRestore r s
  | .releaseWait => Sys2Proof.Machine.execReleaseWait s
  | .quietWait => Sys2Proof.Machine.execQuietWait s
  | .modeRead => Sys2Proof.Machine.execModeRead s
  | .wait d => Sys2Proof.Machine.execWait d s
  | .gameBoot => Sys2Proof.Machine.execGameBoot s
  | .menuIter => Sys2Proof.Machine.execMenuIter s
  | .modeselIter => Sys2Proof.Machine.execModeselIter s
  | .playEnter => Sys2Proof.Machine.execPlayEnter s
  | .playStep => Sys2Proof.Machine.execPlayStep s
  | .swEdge => Sys2Proof.Machine.execSwEdge s
  | .entAdvance e => Sys2Proof.Machine.execEntAdvance e s
  | .collectCheck => Sys2Proof.Machine.execCollectCheck s
  | .hazardCheck => Sys2Proof.Machine.execHazardCheck s
  | .storeIter => Sys2Proof.Machine.execStoreIter s
  | .storePurchase k => Sys2Proof.Machine.execStorePurchase k s
  | .gameExit => Sys2Proof.Machine.execGameExit s
  | .pinConfig => Sys2Proof.Machine.execPinConfig s
  | .lcdCmd b => Sys2Proof.Machine.execLcdCmd b s
  | .lcdGlyph b => Sys2Proof.Machine.execLcdGlyph b s
  | .lcdCursor row col => Sys2Proof.Machine.execLcdCursor row col s
  | .adcRead id => Sys2Proof.Machine.execAdcRead id s
  | .audioPulse => Sys2Proof.Machine.execAudioPulse s
  | .envKey level row col => Sys2Proof.Machine.execEnvKey level row col s
  | .envSw level => Sys2Proof.Machine.execEnvSw level s

end Sys2Proof.Machine
end

