-- ==== Sys2Proof/Machine/Run.lean ====
section
/-! DEFINITION. Taking a script's entries: an operation word performed whole or only begun, a turn of one
agent, and the free choice of the next mover when the script is empty (95_test_vectors Part 3, 20_memory R67;
log 1, 2, 3). Step.lean only calls these. -/

namespace Sys2Proof.Machine

/-- The polling context's task for an operation of its own (the column "agent" of 30_encoding R93), none for
an operation of another agent and for an illegal operand. -/
def pollTask : Instr → Option Task
  | .tickStart => some .tickStart
  | .dvWrite v => some (.dvWrite v)
  | .glowTrigger => some .glowTrigger
  | .alarmTrigger => some .alarmTrigger
  | .keyScan => some .keyScan
  | .rowDrive r => some (.rowDrive r)
  | .settleWait => some (.delay .settle)
  | .colSample => some .colSample
  | .rowRestore r => some (.rowRestore r)
  | .releaseWait => some .releaseWait
  | .quietWait => some (.delay .quiet)
  | .modeRead => some .modeRead
  | .wait d => some (.delay (.wait d))
  | .gameBoot => some .gameBoot
  | .menuIter => some .menuIter
  | .modeselIter => some .modeselIter
  | .playEnter => some .playEnter
  | .playStep => some .playStep
  | .swEdge => some .swEdge
  | .entAdvance e => (entityOfOperand e).map .entAdvance
  | .collectCheck => some .collectCheck
  | .hazardCheck => some .hazardCheck
  | .storeIter => some .storeIter
  | .storePurchase i => (glyphOfOperand i).map .storePurchase
  | .gameExit => some .gameExit
  | .pinConfig => some .pinConfig
  | .lcdCmd b => some (.call (.lcdCommand b))
  | .lcdGlyph b => some (.call (.lcdGlyph b))
  | .lcdCursor row col => some (.call (.lcdCursor row col))
  | .adcRead id => some (.adcRead id)
  | .audioPulse => some (.call .audioPulse)
  | .reset | .tmrFire | .tickHandler | .paceStep | .effectTick | .glowStep | .alarmStep | .muxStep
  | .irqAck | .envKey _ _ _ | .envSw _ => none

/-- An operation of the polling context is begun, with none of its micro-steps taken; any other operation is
performed (log 3). -/
def issueInstr (i : Instr) (s : State) : Host.Outcome State Fault Refusal :=
  match pollTask i with
  | some t => .next (givePoll t s)
  | none => exec i s

/-- A word performed whole, or refused as no operation (30_encoding R90 (a)). -/
def performWord (w : OpWord) (s : State) : Host.Outcome State Fault Refusal :=
  match decode w with
  | .ok i => exec i s
  | .error e => .refused (.notAnOperation e)

/-- A word begun, or refused as no operation (30_encoding R90 (a)). -/
def issueWord (w : OpWord) (s : State) : Host.Outcome State Fault Refusal :=
  match decode w with
  | .ok i => issueInstr i s
  | .error e => .refused (.notAnOperation e)

/-- One entry of the script. -/
def performSlot (e : Slot) (s : State) : Host.Outcome State Fault Refusal :=
  match e with
  | .word w => performWord w s
  | .issue w => issueWord w s
  | .turn m => .next (takeTurn m s)

/-- With no script the next mover is free: any agent, any move of the environment (log 2). -/
def freeTurn (s : State) : State := takeTurn (Config.mover s.turn) { s with turn := s.turn + 1 }

/-- The script with an operation word put before its first entry. -/
def scriptWithWord (s : State) (w : Nat) : List Slot := .word (BitVec.ofNat 24 w) :: s.script

end Sys2Proof.Machine
end

