-- ==== Sys2Proof/Machine/Step.lean ====
section
/-! DEFINITION. One step of the machine: the script's first entry, or, with no script, a free turn. -/

namespace Sys2Proof.Machine

/-- One step (20_memory R67: one total order of the agents' moves; log 1, 2). -/
def step (s : State) : Host.Outcome State Fault Refusal :=
  match s.script with
  | e :: rest => performSlot e { s with script := rest }
  | [] => .next (freeTurn s)

/-- The state whose next step performs the operation word `w` of `nbits` bits, all higher bits 0 (log 1). -/
def State.withFetchWord (s : State) (nbits w : Nat) : State :=
  { s with script := scriptWithWord s (w % 2 ^ nbits) }

end Sys2Proof.Machine
end

