-- ==== Sys2Proof/Machine/Pseudo.lean ====
section
/-! DEFINITION. The pseudo-operations of 30_encoding R92 and the names R92 and R93 give the operations.
They have no OPN: each stands for the operations it expands to. -/

namespace Sys2Proof.Machine

/-- The pseudo-operations (30_encoding R92). -/
inductive Pseudo where
  | tick
  | ticks (n : Nat)
  | effectPeriod
  | press (row col : BitVec 2)
  | release (row col : BitVec 2)
  | swOn
  | swOff
deriving DecidableEq, Repr

/-- `TICKS n`: TMR_FIRE then TICK_HANDLER, n times. -/
def tickWords : Nat → List Instr
  | 0 => []
  | n + 1 => .tmrFire :: .tickHandler :: tickWords n

/-- The expansions of 30_encoding R92. -/
def Pseudo.expand : Pseudo → List Instr
  | .tick => tickWords 1
  | .ticks n => tickWords n
  | .effectPeriod => tickWords Config.effectDiv
  | .press row col => [.envKey true row col]
  | .release row col => [.envKey false row col]
  | .swOn => [.envSw true]
  | .swOff => [.envSw false]

/-- Operations performed one after the other, each whole. -/
def runInstrs : List Instr → State → Host.Outcome State Fault Refusal
  | [], s => .next s
  | i :: is, s =>
    match exec i s with
    | .next s' => runInstrs is s'
    | .fault r => .fault r
    | .refused r => .refused r

/-- `TICK` as a change of the state: one firing and, where it leaves an interrupt pending, one handler
(40_tick_source R108). -/
def tickOnce (s : State) : State := performHandler (fireTimer s)

/-- `TICKS n` as a change of the state. -/
def tickTimes : Nat → State → State
  | 0, s => s
  | n + 1, s => tickTimes n (tickOnce s)

/-- The kinds of 30_encoding R93. -/
inductive Kind where
  | prim
  | comp
  | ext
  | env
deriving DecidableEq, Repr

/-- The column "kind" of 30_encoding R93. -/
def kindOf : Instr → Kind
  | .tickHandler | .effectTick | .keyScan | .gameBoot | .menuIter | .modeselIter | .playStep
  | .collectCheck | .hazardCheck | .storeIter => .comp
  | .wait _ | .pinConfig | .lcdCmd _ | .lcdGlyph _ | .lcdCursor _ _ | .adcRead _ | .audioPulse => .ext
  | .envKey _ _ _ | .envSw _ => .env
  | .reset | .tmrFire | .paceStep | .glowStep | .alarmStep | .muxStep | .irqAck | .tickStart | .dvWrite _
  | .glowTrigger | .alarmTrigger | .rowDrive _ | .settleWait | .colSample | .rowRestore _ | .releaseWait
  | .quietWait | .modeRead | .playEnter | .swEdge | .entAdvance _ | .storePurchase _ | .gameExit => .prim

/-- The column "mnemonic" of 30_encoding R93, the textual name of R92. -/
def mnemonicOf : Instr → String
  | .reset => "RESET"
  | .tmrFire => "TMR_FIRE"
  | .tickHandler => "TICK_HANDLER"
  | .paceStep => "PACE_STEP"
  | .effectTick => "EFFECT_TICK"
  | .glowStep => "GLOW_STEP"
  | .alarmStep => "ALARM_STEP"
  | .muxStep => "MUX_STEP"
  | .irqAck => "IRQ_ACK"
  | .tickStart => "TICK_START"
  | .dvWrite _ => "DV_WRITE"
  | .glowTrigger => "GLOW_TRIGGER"
  | .alarmTrigger => "ALARM_TRIGGER"
  | .keyScan => "KEY_SCAN"
  | .rowDrive _ => "ROW_DRIVE"
  | .settleWait => "SETTLE_WAIT"
  | .colSample => "COL_SAMPLE"
  | .rowRestore _ => "ROW_RESTORE"
  | .releaseWait => "RELEASE_WAIT"
  | .quietWait => "QUIET_WAIT"
  | .modeRead => "MODE_READ"
  | .wait _ => "WAIT"
  | .gameBoot => "GAME_BOOT"
  | .menuIter => "MENU_ITER"
  | .modeselIter => "MODESEL_ITER"
  | .playEnter => "PLAY_ENTER"
  | .playStep => "PLAY_STEP"
  | .swEdge => "SW_EDGE"
  | .entAdvance _ => "ENT_ADVANCE"
  | .collectCheck => "COLLECT_CHECK"
  | .hazardCheck => "HAZARD_CHECK"
  | .storeIter => "STORE_ITER"
  | .storePurchase _ => "STORE_PURCHASE"
  | .gameExit => "GAME_EXIT"
  | .pinConfig => "PIN_CONFIG"
  | .lcdCmd _ => "LCD_CMD"
  | .lcdGlyph _ => "LCD_GLYPH"
  | .lcdCursor _ _ => "LCD_CURSOR"
  | .adcRead _ => "ADC_READ"
  | .audioPulse => "AUDIO_PULSE"
  | .envKey _ _ _ => "ENV_KEY"
  | .envSw _ => "ENV_SW"

end Sys2Proof.Machine
end

