-- ==== Sys2Proof/Safety.lean ====
section
/-! DEFINITION. The terms claims are stated in: a run without faults (60_exceptions R222), agents between two
operations, the invariants of 10_state R44, a quiescent state (60_exceptions R236), a trigger with effect-ticks
between its micro-steps (41_blink_effects R126). -/

namespace Sys2Proof.Machine

/-- "Faults is empty", the premise of every claim about the block (60_exceptions R222). -/
def Unfaulted (s : State) : Prop := s.faults = FaultSet.empty

/-- No handler is in progress, and no fault is recorded. -/
def TickReady (s : State) : Prop := s.tick = Agenda.idle ∧ Unfaulted s

/-- Neither context is in the middle of an operation, and no fault is recorded. -/
def Ready (s : State) : Prop := s.poll = Agenda.idle ∧ TickReady s

/-- DisplayValue is legal (10_state R24). -/
def DisplayLegal (s : State) : Prop := s.displayValue.toNat ≤ Config.dvMax

/-- No key of the matrix is pressed. -/
def NoKey (s : State) : Prop := ∀ r c : BitVec 2, keyAt s.key r c = false

/-! ## The invariants of 10_state R44 -/

/-- M1: at most one anode is enabled. -/
def AtMostOneAnode (an : BitVec 4) : Prop :=
  ∀ i j : BitVec 2, bitAt an i = true → bitAt an j = true → i = j

/-- M2 at a handler boundary: no anode yet, or the one of the slot before DigitSlot. -/
def AnodeOfLastSlot (s : State) : Prop := s.an = 0 ∨ s.an = onehot (s.digitSlot - 1)

/-- M1, M2 and the order of MUX_STEP's writes (42_display_mux R143): outside the multiplexing step the anode
of the last slot; after the blanking none; after the enabling that of the current slot. -/
def MuxInv (s : State) : Prop :=
  match s.tick.todo, s.tick.stage with
  | .mux :: _, 0 => AnodeOfLastSlot s
  | .mux :: _, 1 => s.an = 0
  | .mux :: _, 2 => s.an = 0
  | .mux :: _, _ => s.an = onehot s.digitSlot
  | _, _ => AnodeOfLastSlot s

/-- The polling context is inside a trigger, at least `k` of its micro-steps being done. -/
def InTrigger (t : Task) (k : Nat) (s : State) : Prop := s.poll.todo.head? = some t ∧ k ≤ s.poll.stage

/-- The interrupt context is inside an ALARM_STEP that has flipped the pin. -/
def InAlarmStep (s : State) : Prop := s.tick.todo.head? = some .alarm ∧ 1 ≤ s.tick.stage

/-- B1 and B2 with PaceCount's range (10_state R23, R44): an Idle effect whose trigger is not in progress has an
inactive pin, and the counters stay in their ranges; with the three facts about a trigger and a step in
progress on which that rests. -/
structure BlinkInv (s : State) : Prop where
  pace : s.paceCount < Config.effectDiv
  glowIdle : s.glowArmed = false → ¬ InTrigger .glowTrigger 1 s → s.glowPin = false
  alarmIdle : s.alarmArmed = false → ¬ InTrigger .alarmTrigger 1 s → s.alarmPin = false
  glowRange : s.glowCount ≤ Config.glowDuration
  alarmRange : s.alarmCount ≤ Config.alarmBudget + 1
  alarmArmedRange : s.alarmArmed = true → s.alarmCount ≤ Config.alarmBudget
  alarmZeroed : InTrigger .alarmTrigger 2 s →
    s.alarmCount ≤ Config.alarmBudget ∧ (s.alarmArmed = true → s.alarmCount < Config.alarmBudget)
  alarmFlipped : InAlarmStep s → s.alarmArmed = true

/-- The tasks that drive or restore row lines or are the rest of a scan. -/
def rowTask : Task → Bool
  | .scanDrive | .scanSettle | .scanSample | .scanRestore | .scanQuiet | .scanReturn | .rowDrive _
  | .rowRestore _ | .releaseWait => true
  | _ => false

/-- No row task among these. -/
def NoRowTask (ts : List Task) : Prop := ∀ t ∈ ts, rowTask t = false

/-- K1 and 10_state R33: outside a KEY_SCAN no row is selected and KS_PHASE is KS_IDLE; inside, KS_PHASE names
the part, in the scan loop at most the row of KS_ROW is selected, in the release-wait the rows RELEASE_ROWS says
for the key of KS_HIT (43_keypad_scanner R168), and after it none. The phases are as log 27 has them. -/
def ScannerInv (s : State) : Prop :=
  match s.poll.todo with
  | .scanDrive :: .scanSettle :: .scanSample :: .scanRestore :: rest =>
    NoRowTask rest ∧ s.row = 0 ∧ s.ksPhase = .drive
  | .scanSettle :: .scanSample :: .scanRestore :: rest =>
    NoRowTask rest ∧ s.row = onehot (Config.rowOrder s.ksRow) ∧ s.ksPhase = .settle
  | .scanSample :: .scanRestore :: rest =>
    NoRowTask rest ∧ s.row = onehot (Config.rowOrder s.ksRow) ∧ s.ksPhase = .sample
  | .scanRestore :: rest =>
    NoRowTask rest ∧ s.row = onehot (Config.rowOrder s.ksRow) ∧ s.ksPhase = .sample
  | .releaseWait :: .scanQuiet :: .scanReturn :: rest =>
    NoRowTask rest ∧ s.ksPhase = .release ∧ ∃ r c : BitVec 2, s.ksHit = some (r, c) ∧
      s.row = if s.poll.stage = 0 then 0 else releaseSelect Config.releaseRows r 0
  | .scanQuiet :: .scanReturn :: rest => NoRowTask rest ∧ s.row = 0 ∧ s.ksPhase = .release
  | .scanReturn :: rest => NoRowTask rest ∧ s.row = 0 ∧ s.ksPhase = .quiet
  | ts => NoRowTask ts ∧ s.row = 0 ∧ s.ksPhase = .idle

/-! ## Quiescence -/

/-- A quiescent state (60_exceptions R236): GameState = Exit, TickPending = 0, both effects Idle, Faults
empty. -/
structure Quiescent (s : State) : Prop where
  exited : s.gameState = .exit
  notPending : s.tickPending = false
  glowIdle : s.glowArmed = false
  alarmIdle : s.alarmArmed = false
  unfaulted : Unfaulted s

/-! ## A trigger racing the handler -/

/-- `n` effect-ticks, one after the other. -/
def effectTicks : Nat → State → State
  | 0, s => s
  | n + 1, s => effectTicks n (performTick [.effect] s)

/-- A trigger with `p1` effect-ticks between its micro-steps 1 and 2 and `p2` between 2 and 3, to the end of its
last micro-step (41_blink_effects R126). -/
def raceTrigger (t : Task) (p1 p2 : Nat) (s : State) : State :=
  pollingTurn (effectTicks p2 (pollingTurn (effectTicks p1 (pollingTurn (givePoll t s)))))

/-- KEY_SCAN's result is NOKEY or one of the 16 legal codes (43_keypad_scanner R170, 30_encoding R84). -/
def KeyResultLegal (s : State) : Prop :=
  s.keyResult = Config.noKey ∨ ∃ r c : BitVec 2, s.keyResult = keyCode r c

/-- The contacts of one row of the keypad. -/
def keyRow (k : KeyMatrix) (r : BitVec 2) : BitVec 4 :=
  if r = 0 then k.row0 else if r = 1 then k.row1 else if r = 2 then k.row2 else k.row3

/-- Key (r, c) is pressed, and every pressed key has a later row, or that row and no lesser column: the key
43_keypad_scanner R166 selects. -/
def FirstKey (k : KeyMatrix) (r c : BitVec 2) : Prop :=
  keyAt k r c = true ∧
    ∀ r' c' : BitVec 2, keyAt k r' c' = true → r.toNat < r'.toNat ∨ (r' = r ∧ c.toNat ≤ c'.toNat)

/-- What a KEY_SCAN that finds no key leaves (43_keypad_scanner R161, R167). -/
def scannedNoKey (s : State) : State :=
  { s with
      row := 0, ksPhase := .idle, ksRow := 3, ksHit := none, colResult := 0,
      keyResult := Config.noKey }

/-- Where a KEY_SCAN stands that has found key (r, c) and is held by its release-wait, with `rest` to be done
after it (43_keypad_scanner R161, R166, R168). -/
def scanHeld (r c : BitVec 2) (rest : List Task) (s : State) : State :=
  { s with
      row := releaseSelect Config.releaseRows r 0, ksPhase := .release, ksRow := r, ksHit := some (r, c),
      colResult := keyRow s.key r, poll := ⟨.releaseWait :: .scanQuiet :: .scanReturn :: rest, 1⟩ }

/-- The hold of a release-wait: rows are selected and some watched column is asserted (43_keypad_scanner
R168). -/
def Holding (s : State) : Prop :=
  s.poll.todo.head? = some .releaseWait ∧ s.poll.stage = 1 ∧ s.columns ≠ 0

end Sys2Proof.Machine
end

