-- ==== Sys2Proof/Certificates/Slice0/Obligations.lean ====
section
/-! DEFINITION. The statements for the provers, from the numbered rules of spec/. In each, an equation
`exec i s = .next t` with `t` written as an update of `s` gives the result, the frame (every field not
written there is unchanged) and the completion of `i` at once. A statement about the block takes "Faults is empty"
as a premise (60_exceptions R222), by itself or inside `Ready` and `TickReady`; those about the record of faults, the
environment, the encodings and the model's script are named in log 9 and do not rest on what a faulted machine does. -/

open Sys2Proof Sys2Proof.Machine

/-! ## Encodings -/

/-- 30_encoding, section 2 and the operation map: every operation with legal operands is read back from its
word, with every operand at every value. -/
def Obligations.DecodeOfEncode : Prop :=
  ∀ i : Instr, i.wellFormed = true →
    decode (encode i) = .ok i ∧ decodeTableWord 24 (encode i).toNat = some i

/-- 30_encoding, section 2 and section 5 (a): a word the decoder accepts is the word of the operation it
gives, and its operands are legal: no two words mean one operation, no unused bit is ignored. -/
def Obligations.EncodeOfDecode : Prop :=
  ∀ (w : OpWord) (i : Instr), decode w = .ok i → encode i = w ∧ i.wellFormed = true

/-- 95_test_vectors, section 2.7: the operation words written out there, and the words it says a decoder
refuses. -/
def Obligations.SampleWords : Prop :=
  decode 0x000000#24 = .ok .reset ∧ decode 0x010000#24 = .ok .tmrFire ∧
  decode 0x020000#24 = .ok .tickHandler ∧ decode 0x100000#24 = .ok .tickStart ∧
  decode 0x120000#24 = .ok .glowTrigger ∧ decode 0x130000#24 = .ok .alarmTrigger ∧
  decode 0x140000#24 = .ok .keyScan ∧ decode 0x400123#24 = .ok (.envKey true 2 3) ∧
  decode 0x400023#24 = .ok (.envKey false 2 3) ∧ decode 0x410001#24 = .ok (.envSw true) ∧
  decode 0x410000#24 = .ok (.envSw false) ∧ decode 0x330015#24 = .ok (.lcdCursor 1 5) ∧
  decode 0x320041#24 = .ok (.lcdGlyph 0x41) ∧ decode 0x1C00C8#24 = .ok (.wait 200) ∧
  decode 0x300000#24 = .ok .pinConfig ∧ decode 0x1104D2#24 = .ok (.dvWrite 1234) ∧
  decode 0x150002#24 = .ok (.rowDrive 2) ∧ decode 0x180002#24 = .ok (.rowRestore 2) ∧
  decode 0x260001#24 = .ok (.entAdvance 1) ∧ decode 0x2A0001#24 = .ok (.storePurchase 1) ∧
  decode 0x11270F#24 = .ok (.dvWrite 9999) ∧ decode 0x110000#24 = .ok (.dvWrite 0) ∧
  decode 0x090000#24 = .error (.unassignedOpn 9) ∧ decode 0x120001#24 = .error .nonzeroUnusedBits ∧
  decode 0x2A0003#24 = .error .illegalOperand ∧ decode 0x260002#24 = .error .illegalOperand ∧
  decode 0x150004#24 = .error .nonzeroUnusedBits ∧ decode 0x400200#24 = .error .nonzeroUnusedBits

/-! ## Steps -/

/-- Log 1 (the model's choice; 95_test_vectors, Part 3, writes runs as operation words): when the script's
next entry is the word of a well-formed operation, the step performs exactly that operation on the state
without the entry; so does the step of a state prepared with `withFetchWord`. -/
def Obligations.StepPerformsWord : Prop :=
  (∀ (s : State) (w : OpWord) (rest : List Slot) (i : Instr),
    s.script = .word w :: rest → decode w = .ok i → step s = exec i { s with script := rest }) ∧
  (∀ (s : State) (i : Instr), i.wellFormed = true →
    step (s.withFetchWord 24 (encode i).toNat) = exec i s)

/-- 30_encoding, section 5 (a), through the script of log 1: a word that is no operation's is refused by
name. -/
def Obligations.StepRefusesOtherWords : Prop :=
  ∀ (s : State) (w : OpWord) (rest : List Slot),
    (s.script = .word w :: rest ∨ s.script = .issue w :: rest) →
    (∀ i : Instr, i.wellFormed = true → encode i ≠ w) →
    ∃ e : DecodeError, step s = .refused (.notAnOperation e)

/-- Log 1, 2, 3 (the model's choice): a turn of one agent, a polling operation begun, and, with an empty
script, a free turn, each with what the step does around it. -/
def Obligations.StepTakesTurns : Prop :=
  (∀ (s : State) (m : Mover) (rest : List Slot),
    s.script = .turn m :: rest → step s = .next (takeTurn m { s with script := rest })) ∧
  (∀ (s : State) (w : OpWord) (rest : List Slot) (i : Instr) (t : Task),
    s.script = .issue w :: rest → decode w = .ok i → pollTask i = some t →
      step s = .next { s with script := rest, poll := s.poll.push t }) ∧
  (∀ s : State, s.script = [] →
    step s = .next (takeTurn (Config.mover s.turn) { s with turn := s.turn + 1 }))

/-- 00_scope, section 6 (micro-steps), and log 3: an operation of the polling context performed whole, from a
state in which neither context is in the middle of one, is a number of turns of the polling context after it
was begun; TICK_HANDLER performed whole is a number of turns of the interrupt context; and a handler in
progress is ended first. With no fault recorded before (R222). -/
def Obligations.WholeIsTurns : Prop :=
  (∀ (i : Instr) (t : Task) (s : State), Unfaulted s → pollTask i = some t → s.poll = Agenda.idle →
    s.tick.todo = [] → ∃ n : Nat, exec i s = .next (pollingTurn^[n] (givePoll t s))) ∧
  (∀ s : State, Unfaulted s → s.tick = Agenda.idle → s.tickPending = true →
    ∃ n : Nat, exec .tickHandler s = .next (interruptTurn^[n] s) ∧
      (interruptTurn^[n] s).tick.todo = []) ∧
  (∀ (i : Instr) (s : State), Unfaulted s → (i.agent = .poll ∨ i.agent = .tick) →
    (finishTick s).tick.todo = [] ∧ exec i s = exec i (finishTick s))

/-! ## Reset -/

/-- 70_reset_and_hazards, section 1 (RESET), and 10_state, section 8: RESET answers the reset values the spec
gives, whatever the state before; the environment's Key and Sw are not reset; the polling context is about to run
GAME_BOOT. No tick can fire: that such a move is a step that changes nothing is the model's choice (log 4); that
the machine's first state is one that RESET leaves as it is rests on the values the model chose for it (log 10, 11)
and on what RESET keeps (log 22). -/
def Obligations.ResetLeavesRuleValues : Prop :=
  encode .reset = 0x000000#24 ∧
  (∀ s : State, ∃ t : State, exec .reset s = .next t ∧
    t.pinsConfigured = false ∧ t.tickRun = false ∧ t.tickPending = false ∧ t.paceCount = 0 ∧
    t.displayValue = 0 ∧ t.digitSlot = 0 ∧ t.an = 0 ∧ t.seg = 0 ∧
    t.glowArmed = false ∧ t.glowCount = 0 ∧ t.glowPin = false ∧
    t.alarmArmed = false ∧ t.alarmCount = 0 ∧ t.alarmPin = false ∧
    t.row = 0 ∧ t.ksPhase = .idle ∧ t.ksRow = 0 ∧ t.ksHit = none ∧
    t.gameState = .menu ∧ t.currency = Config.currencyInit ∧ t.selectedGlyph = Config.glyphDefault ∧
    t.faults = FaultSet.empty ∧ t.key = s.key ∧ t.sw = s.sw ∧
    exec .tmrFire t = .next t ∧ exec .tickHandler t = .next t ∧
    pollingTurn t = { t with poll := ⟨[.gameBoot], 0⟩ }) ∧
  exec .reset State.reset = .next State.reset

/-! ## The Periodic Tick Source (40_tick_source) -/

/-- 40_tick_source, TMR_FIRE: a firing sets TickPending and changes nothing else, at any point of any other
agent's activity; a firing while TickPending = 1 is absorbed; the timer's own turn is the same. With TickRun = 0
nothing changes (log 4: "the timer has no step" read as a step that changes nothing). -/
def Obligations.TmrFire : Prop :=
  encode .tmrFire = 0x010000#24 ∧
  (∀ s : State, Unfaulted s → s.tickRun = true →
    exec .tmrFire s = .next { s with tickPending := true } ∧
    takeTurn .timer s = { s with tickPending := true } ∧
    (s.tickPending = true → exec .tmrFire s = .next s)) ∧
  (∀ s : State, Unfaulted s → s.tickRun = false → exec .tmrFire s = .next s ∧ takeTurn .timer s = s)

/-- 20_memory, section 4 (a) and (b), 60_exceptions, section 2 (handler entry): the handler may begin whenever
TickPending = 1 and none is in progress, wherever the polling context stands, and its entry changes nothing
else; while it is in progress the polling context does not move and no second one begins. With TickPending = 0
TICK_HANDLER changes nothing (log 4). -/
def Obligations.HandlerEntry : Prop :=
  (∀ s : State, Unfaulted s → s.tick.todo = [] → s.tickPending = true →
    interruptTurn s = { s with tick := ⟨[.pace, .mux, .ack], 0⟩ }) ∧
  (∀ s : State, Unfaulted s → s.tick.todo = [] → s.tickPending = false → interruptTurn s = s) ∧
  (∀ s : State, Unfaulted s → s.tick.todo ≠ [] →
    pollingTurn s = s ∧ tickStep s = some (interruptTurn s)) ∧
  (∀ s : State, Unfaulted s → s.tick.todo = [] → s.tickPending = false → exec .tickHandler s = .next s)

/-- 40_tick_source R105: IRQ_ACK clears TickPending, and a TICK_HANDLER that does not fault ends with
TickPending = 0. -/
def Obligations.IrqAck : Prop :=
  encode .irqAck = 0x080000#24 ∧
  (∀ s : State, TickReady s → exec .irqAck s = .next { s with tickPending := false }) ∧
  (∀ s t : State, TickReady s → s.tickPending = true → exec .tickHandler s = .next t → Unfaulted t →
    t.tickPending = false)

/-- 40_tick_source, PACE_STEP: below the wrap it counts up; at the wrap it writes 0 and runs EFFECT_TICK. -/
def Obligations.PaceStep : Prop :=
  encode .paceStep = 0x030000#24 ∧
  (∀ s : State, TickReady s → s.paceCount + 1 < Config.effectDiv →
    exec .paceStep s = .next { s with paceCount := s.paceCount + 1 }) ∧
  (∀ s : State, TickReady s → Config.effectDiv ≤ s.paceCount + 1 →
    ∃ t : State, exec .effectTick { s with paceCount := 0 } = .next t ∧ exec .paceStep s = .next t)

/-- 40_tick_source, EFFECT_TICK: GLOW_STEP then ALARM_STEP; the other order gives the same state. -/
def Obligations.EffectTick : Prop :=
  encode .effectTick = 0x040000#24 ∧
  (∀ s : State, TickReady s → ∃ a b t : State,
    exec .glowStep s = .next a ∧ exec .alarmStep a = .next t ∧
    exec .alarmStep s = .next b ∧ exec .glowStep b = .next t ∧
    exec .effectTick s = .next t)

/-- 40_tick_source, TICK_HANDLER: PACE_STEP, MUX_STEP, IRQ_ACK in that order; with a DisplayValue out of range
the multiplexing step raises its fault and IRQ_ACK does not happen. -/
def Obligations.TickHandler : Prop :=
  encode .tickHandler = 0x020000#24 ∧
  (∀ s : State, TickReady s → s.tickPending = true → DisplayLegal s → ∃ a b t : State,
    exec .paceStep s = .next a ∧ exec .muxStep a = .next b ∧ exec .irqAck b = .next t ∧
    exec .tickHandler s = .next t) ∧
  (∀ s : State, TickReady s → s.tickPending = true → ¬ DisplayLegal s → ∃ a t : State,
    exec .paceStep s = .next a ∧ exec .muxStep a = .next t ∧ exec .tickHandler s = .next t ∧
    t.tickPending = true)

/-- 40_tick_source, TICK_START, and 70_reset_and_hazards, section 1 (boot requirements): TICK_START starts the
timer; TICK_START and KEY_SCAN before PIN_CONFIG raise BootOrder and write nothing else. -/
def Obligations.BootOrder : Prop :=
  encode .tickStart = 0x100000#24 ∧
  (∀ s : State, Ready s → s.pinsConfigured = true →
    exec .tickStart s = .next { s with tickRun := true }) ∧
  (∀ s : State, Ready s → s.pinsConfigured = false →
    exec .tickStart s = .next { s with faults := s.faults.add .bootOrder } ∧
    exec .keyScan s = .next { s with faults := s.faults.add .bootOrder })

/-! ## The Blink-Effect Timers (41_blink_effects) -/

/-- 41_blink_effects R121 and R124: the triggers, from any state of the effect: the result, the three
micro-steps in their order, alone and with more of a composite to come, and the handler's liberty to begin between
any two of them. -/
def Obligations.Triggers : Prop :=
  encode .glowTrigger = 0x120000#24 ∧ encode .alarmTrigger = 0x130000#24 ∧
  (∀ s : State, Ready s →
    exec .glowTrigger s =
      .next { s with glowPin := true, glowCount := Config.glowDuration, glowArmed := true } ∧
    exec .alarmTrigger s = .next { s with alarmPin := true, alarmCount := 0, alarmArmed := true }) ∧
  (∀ (s : State) (rest : List Task), Unfaulted s → s.tick.todo = [] →
    (s.poll = ⟨.glowTrigger :: rest, 0⟩ →
      pollingTurn s = { s with glowPin := true, poll := ⟨.glowTrigger :: rest, 1⟩ }) ∧
    (s.poll = ⟨.glowTrigger :: rest, 1⟩ →
      pollingTurn s = { s with glowCount := Config.glowDuration, poll := ⟨.glowTrigger :: rest, 2⟩ }) ∧
    (s.poll = ⟨.glowTrigger :: rest, 2⟩ →
      pollingTurn s = { s with glowArmed := true, poll := ⟨rest, 0⟩ }) ∧
    (s.poll = ⟨.alarmTrigger :: rest, 0⟩ →
      pollingTurn s = { s with alarmPin := true, poll := ⟨.alarmTrigger :: rest, 1⟩ }) ∧
    (s.poll = ⟨.alarmTrigger :: rest, 1⟩ →
      pollingTurn s = { s with alarmCount := 0, poll := ⟨.alarmTrigger :: rest, 2⟩ }) ∧
    (s.poll = ⟨.alarmTrigger :: rest, 2⟩ →
      pollingTurn s = { s with alarmArmed := true, poll := ⟨rest, 0⟩ }) ∧
    (s.tickPending = true → interruptTurn s = { s with tick := ⟨[.pace, .mux, .ack], 0⟩ }))

/-- 41_blink_effects R122: GLOW_STEP. -/
def Obligations.GlowStep : Prop :=
  encode .glowStep = 0x050000#24 ∧
  (∀ s : State, TickReady s → s.glowArmed = false → exec .glowStep s = .next s) ∧
  (∀ s : State, TickReady s → s.glowArmed = true → s.glowCount ≤ 1 →
    exec .glowStep s = .next { s with glowCount := 0, glowPin := false, glowArmed := false }) ∧
  (∀ s : State, TickReady s → s.glowArmed = true → 2 ≤ s.glowCount →
    exec .glowStep s = .next { s with glowCount := s.glowCount - 1 })

/-- 41_blink_effects, ALARM_STEP: with the flip that comes before the force inside the handler, and the pins and
counts of the effect-ticks after a clean trigger. That the flip is a micro-step of its own, apart from the count, is
the model's reading (log 6). -/
def Obligations.AlarmStep : Prop :=
  encode .alarmStep = 0x060000#24 ∧
  (∀ s : State, TickReady s → s.alarmArmed = false → exec .alarmStep s = .next s) ∧
  (∀ s : State, TickReady s → s.alarmArmed = true → s.alarmCount + 1 < Config.alarmBudget →
    exec .alarmStep s =
      .next { s with alarmPin := !s.alarmPin, alarmCount := s.alarmCount + 1 }) ∧
  (∀ s : State, TickReady s → s.alarmArmed = true → Config.alarmBudget ≤ s.alarmCount + 1 →
    exec .alarmStep s =
      .next { s with alarmPin := false, alarmCount := s.alarmCount + 1, alarmArmed := false }) ∧
  (∀ (s : State) (rest : List TickTask), Unfaulted s → s.alarmArmed = true → s.tick = ⟨.alarm :: rest, 0⟩ →
    interruptTurn s = { s with alarmPin := !s.alarmPin, tick := ⟨.alarm :: rest, 1⟩ }) ∧
  (∀ (s : State) (n : Nat), TickReady s → s.alarmArmed = true → s.alarmCount = 0 → s.alarmPin = true →
    n ≤ Config.alarmBudget →
      (effectTicks n s).alarmCount = n ∧
      (effectTicks n s).alarmPin = decide (n < Config.alarmBudget ∧ n % 2 = 0) ∧
      (effectTicks n s).alarmArmed = decide (n < Config.alarmBudget))

/-- 41_blink_effects, section 3: a trigger with any number of effect-ticks at p1 and at p2, the state it leaves
for each state before, and the return to Idle with an inactive pin after at most D (Glow) or B (Alarm)
further effect-ticks. -/
def Obligations.TriggerRaces : Prop :=
  (∀ (s : State) (p1 p2 : Nat), Ready s →
    (s.glowArmed = false →
      raceTrigger .glowTrigger p1 p2 s =
        { effectTicks (p1 + p2) s with
          glowArmed := true, glowCount := Config.glowDuration, glowPin := true }) ∧
    (s.glowArmed = true → 1 ≤ s.glowCount →
      ∃ u : State, u.glowArmed = true ∧
        raceTrigger .glowTrigger p1 p2 s = u ∧
        (p1 < s.glowCount → p2 < Config.glowDuration →
          u.glowCount = Config.glowDuration - p2 ∧ u.glowPin = true) ∧
        (p1 < s.glowCount → Config.glowDuration ≤ p2 → u.glowCount = 0 ∧ u.glowPin = false) ∧
        (s.glowCount ≤ p1 → u.glowCount = Config.glowDuration ∧ u.glowPin = false) ∧
        (effectTicks Config.glowDuration u).glowArmed = false ∧
        (effectTicks Config.glowDuration u).glowPin = false)) ∧
  (∀ (s : State) (p1 p2 : Nat), Ready s →
    (s.alarmArmed = false →
      raceTrigger .alarmTrigger p1 p2 s =
        { effectTicks (p1 + p2) s with alarmArmed := true, alarmCount := 0, alarmPin := true }) ∧
    (s.alarmArmed = true → s.alarmCount < Config.alarmBudget →
      ∃ u : State, u.alarmArmed = true ∧
        raceTrigger .alarmTrigger p1 p2 s = u ∧
        (p1 < Config.alarmBudget - s.alarmCount → p2 < Config.alarmBudget →
          u.alarmCount = p2 ∧ u.alarmPin = decide ((p1 + p2) % 2 = 0)) ∧
        (p1 < Config.alarmBudget - s.alarmCount → Config.alarmBudget ≤ p2 →
          u.alarmCount = Config.alarmBudget ∧ u.alarmPin = false) ∧
        (Config.alarmBudget - s.alarmCount ≤ p1 → u.alarmCount = 0 ∧ u.alarmPin = false) ∧
        (effectTicks Config.alarmBudget u).alarmArmed = false ∧
        (effectTicks Config.alarmBudget u).alarmPin = false))

/-- 41_blink_effects, section 4 (durations in ticks), and 30_encoding, TICKS n: n ticks from a clean trigger of
either effect. With d = EFFECT_DIV - PaceCount, effect-ticks fall in ticks d, d + EFFECT_DIV, …: e of them in n
ticks; the pins and counts follow from e alone. -/
def Obligations.BlinkOverTicks : Prop :=
  ∀ (s : State) (n : Nat), TickReady s → DisplayLegal s → s.tickRun = true → s.tickPending = false →
    s.paceCount < Config.effectDiv →
    ∃ (t : State) (e : Nat), runInstrs (tickWords n) s = .next t ∧
      (∀ j : Nat, j < e ↔ (Config.effectDiv - s.paceCount) + j * Config.effectDiv ≤ n) ∧
      t.paceCount = (s.paceCount + n) % Config.effectDiv ∧ t.tickPending = false ∧
      (s.glowArmed = true → s.glowCount = Config.glowDuration → s.glowPin = true →
        t.glowPin = decide (e < Config.glowDuration) ∧ t.glowArmed = decide (e < Config.glowDuration) ∧
        t.glowCount = Config.glowDuration - e) ∧
      (s.alarmArmed = true → s.alarmCount = 0 → s.alarmPin = true →
        t.alarmPin = decide (e < Config.alarmBudget ∧ e % 2 = 0) ∧
        t.alarmArmed = decide (e < Config.alarmBudget) ∧
        t.alarmCount = min e Config.alarmBudget) ∧
      (s.glowArmed = false →
        t.glowArmed = false ∧ t.glowCount = s.glowCount ∧ t.glowPin = s.glowPin) ∧
      (s.alarmArmed = false →
        t.alarmArmed = false ∧ t.alarmCount = s.alarmCount ∧ t.alarmPin = s.alarmPin)

/-! ## Invariants every step keeps -/

/-- 10_state, section 7 (invariants B1, B2), and 10_state R23's range: kept by every step of any agent from a state
without faults (R222); the canonical form of the fault set (log 19) is kept by every step. -/
def Obligations.BlinkInvKept : Prop :=
  (∀ s s' : State, Unfaulted s → BlinkInv s → step s = .next s' → BlinkInv s') ∧
  (∀ s s' : State, s.faults.wf → step s = .next s' → s'.faults.wf)

/-- 10_state, section 7 (invariants M1, M2): which anode is enabled, at every instant, kept by every step from a
state without faults (R222); and under it, as it reads, it is never two. -/
def Obligations.MuxInvKept : Prop :=
  (∀ s s' : State, Unfaulted s → MuxInv s → step s = .next s' → MuxInv s') ∧
  (∀ s : State, MuxInv s → AtMostOneAnode s.an)

/-- 10_state, section 7 (invariant K1, and the ROW lines inside a scan): kept by every step that no script decides,
from a state without faults (R222), so with the Game Loop as the polling context's program. In the release-wait the
rows are those RELEASE_ROWS says for the key found (43_keypad_scanner, section 3). The phases are as log 27 has
them. -/
def Obligations.ScannerInvKept : Prop :=
  ∀ s s' : State, Unfaulted s → s.script = [] → ScannerInv s → step s = .next s' → ScannerInv s'

/-- The machine's first state meets the invariants, with both contexts between two operations and no fault
recorded. -/
def Obligations.InvariantsAtReset : Prop :=
  BlinkInv State.reset ∧ State.reset.faults.wf ∧ MuxInv State.reset ∧ ScannerInv State.reset ∧
    KeyResultLegal State.reset ∧ Ready State.reset ∧ DisplayLegal State.reset

/-! ## The Display Multiplexer (42_display_mux) -/

/-- 42_display_mux R140: DV_WRITE stores any 16-bit value as given, in one micro-step, with no fault; the next
multiplexing step is the first to read it, and reads it whole. -/
def Obligations.DvWrite : Prop :=
  ∀ v : BitVec 16,
    encode (.dvWrite v) = 0x110000#24 + v.setWidth 24 ∧
    (∀ s : State, Ready s →
      exec (.dvWrite v) s = .next { s with displayValue := v.setWidth dvWidth } ∧
      pollingTurn (givePoll (.dvWrite v) s) = { s with displayValue := v.setWidth dvWidth }) ∧
    (∀ s t : State, Ready s → v.toNat ≤ Config.dvMax → exec (.dvWrite v) s = .next t →
      ∃ u : State, exec .muxStep t = .next u ∧ segRead (digit v.toNat s.digitSlot) = some u.seg) ∧
    (∀ s t : State, Ready s → Config.dvMax < v.toNat → exec (.dvWrite v) s = .next t →
      ∃ u : State, exec .muxStep t = .next u ∧ u.faults.holds (.displayRange v.toNat) = true)

/-- 42_display_mux, MUX_STEP: its writes in their order, one by one as the pins show them, and the whole step; that
the range check is one micro-step with the write of SEG is the model's reading (log 6); a DisplayValue above DV_MAX
is found after the blanking. -/
def Obligations.MuxStep : Prop :=
  encode .muxStep = 0x070000#24 ∧
  (∀ s : State, TickReady s → DisplayLegal s →
    ∃ p : BitVec 7, segRead (digit s.displayValue.toNat s.digitSlot) = some p ∧
      exec .muxStep s =
        .next { s with an := onehot s.digitSlot, seg := p, digitSlot := s.digitSlot + 1 }) ∧
  (∀ s : State, TickReady s → ¬ DisplayLegal s →
    exec .muxStep s =
      .next { s with an := 0, faults := s.faults.add (.displayRange s.displayValue.toNat) }) ∧
  (∀ (s : State) (rest : List TickTask), Unfaulted s →
    (s.tick = ⟨.mux :: rest, 0⟩ → interruptTurn s = { s with an := 0, tick := ⟨.mux :: rest, 1⟩ }) ∧
    (s.tick = ⟨.mux :: rest, 1⟩ → DisplayLegal s →
      ∃ p : BitVec 7, segRead (digit s.displayValue.toNat s.digitSlot) = some p ∧
        interruptTurn s = { s with seg := p, tick := ⟨.mux :: rest, 2⟩ }) ∧
    (s.tick = ⟨.mux :: rest, 1⟩ → ¬ DisplayLegal s →
      interruptTurn s =
        { s with faults := s.faults.add (.displayRange s.displayValue.toNat), tick := Agenda.idle }) ∧
    (s.tick = ⟨.mux :: rest, 2⟩ →
      interruptTurn s = { s with an := onehot s.digitSlot, tick := ⟨.mux :: rest, 3⟩ }) ∧
    (s.tick = ⟨.mux :: rest, 3⟩ →
      interruptTurn s = { s with digitSlot := s.digitSlot + 1, tick := ⟨rest, 0⟩ }))

/-- 42_display_mux R146: a DisplayValue above DV_MAX raises DisplayRange(v) in every slot, after the blanking
and before SEG, AN or DigitSlot is written; inside the handler TickPending stays 1; the state is then
faulted. -/
def Obligations.OutOfRange : Prop :=
  ∀ s : State, TickReady s → ¬ DisplayLegal s →
    exec .muxStep s =
      .next { s with an := 0, faults := s.faults.add (.displayRange s.displayValue.toNat) } ∧
    (s.tickPending = true → ∃ t : State, exec .tickHandler s = .next t ∧
      t.faults.holds (.displayRange s.displayValue.toNat) = true ∧ ¬ Unfaulted t ∧
      t.an = 0 ∧ t.seg = s.seg ∧ t.digitSlot = s.digitSlot ∧ t.tickPending = true)

/-- 10_state, section 7 (invariant M3), and 70_reset_and_hazards, section 2 (blank before change): a turn of any
agent that changes SEG finds the four anodes blanked and leaves them so. -/
def Obligations.BlankBeforeChange : Prop :=
  ∀ (s : State) (m : Mover), Unfaulted s → MuxInv s → (takeTurn m s).seg ≠ s.seg →
    s.an = 0 ∧ (takeTurn m s).an = 0

/-- 42_display_mux and 30_encoding, section 4: the four digits of a legal value, each in 0..9, are the only ones
that recover it, and slot s shows the place SLOT_PLACE(s). The Segment Table (20_memory, section 1): SegRead gives
SEG_TABLE's entry for each of the ten digits and none above; the patterns are the spec's default for SEG_TABLE, its
own general knowledge (log 13). No MUX_STEP and no turn of any agent raises SegIndex, in any state. -/
def Obligations.Digits : Prop :=
  (∀ v : Nat, v ≤ Config.dvMax →
    place v 3 * 1000 + place v 2 * 100 + place v 1 * 10 + place v 0 = v ∧
    place v 3 = v / 1000 ∧ place v 2 = v / 100 % 10 ∧ place v 1 = v / 10 % 10 ∧ place v 0 = v % 10 ∧
    (∀ s : BitVec 2, digit v s = place v (Config.slotPlace s) ∧ digit v s ≤ 9) ∧
    digit v 0 = v / 1000 ∧ digit v 1 = v / 100 % 10 ∧ digit v 2 = v / 10 % 10 ∧ digit v 3 = v % 10) ∧
  (∀ v a b c d : Nat, a ≤ 9 → b ≤ 9 → c ≤ 9 → d ≤ 9 → a * 1000 + b * 100 + c * 10 + d = v →
    v ≤ Config.dvMax ∧ a = place v 3 ∧ b = place v 2 ∧ c = place v 1 ∧ d = place v 0) ∧
  (∀ d : Nat, segRead d = Config.segTable[d]?) ∧
  (segRead 0 = some 0x3F#7 ∧ segRead 1 = some 0x06#7 ∧ segRead 2 = some 0x5B#7 ∧ segRead 3 = some 0x4F#7 ∧
    segRead 4 = some 0x66#7 ∧ segRead 5 = some 0x6D#7 ∧ segRead 6 = some 0x7D#7 ∧ segRead 7 = some 0x07#7 ∧
    segRead 8 = some 0x7F#7 ∧ segRead 9 = some 0x6F#7) ∧
  (∀ d : Nat, 10 ≤ d → segRead d = none) ∧
  (∀ s t : State, exec .muxStep s = .next t → t.faults.segIndex = s.faults.segIndex) ∧
  (∀ (m : Mover) (s : State), (takeTurn m s).faults.segIndex = s.faults.segIndex)

/-- 42_display_mux, section on the multiplexing invariant, and 95_test_vectors S2: after n + 1 ticks the one
anode enabled is that of slot DigitSlot + n, SEG shows that slot's digit, and DigitSlot is one further; so any
four consecutive ticks enable each slot in exactly one. -/
def Obligations.SlotCycle : Prop :=
  ∀ (s : State) (n : Nat), TickReady s → DisplayLegal s → s.tickRun = true →
    ∃ t : State, runInstrs (tickWords (n + 1)) s = .next t ∧
      t.an = onehot (s.digitSlot + BitVec.ofNat 2 n) ∧
      segRead (digit s.displayValue.toNat (s.digitSlot + BitVec.ofNat 2 n)) = some t.seg ∧
      t.digitSlot = s.digitSlot + BitVec.ofNat 2 n + 1 ∧ t.displayValue = s.displayValue

/-! ## The Keypad Scanner (43_keypad_scanner) -/

/-- 43_keypad_scanner, section 2 (ROW_DRIVE, ROW_RESTORE): one row line written, the other three and every other
field as before. -/
def Obligations.RowLines : Prop :=
  ∀ r : BitVec 2,
    encode (.rowDrive r) = 0x150000#24 + r.setWidth 24 ∧
    encode (.rowRestore r) = 0x180000#24 + r.setWidth 24 ∧
    (∀ s : State, Ready s →
      (∃ t : State, exec (.rowDrive r) s = .next t ∧ t = { s with row := t.row } ∧
        ∀ j : BitVec 2, bitAt t.row j = if j = r then true else bitAt s.row j) ∧
      (∃ t : State, exec (.rowRestore r) s = .next t ∧ t = { s with row := t.row } ∧
        ∀ j : BitVec 2, bitAt t.row j = if j = r then false else bitAt s.row j))

/-- 43_keypad_scanner, section 1 (the ideal column network, general knowledge the spec marks as such; log 23)
and COL_SAMPLE: one snapshot, no side effect. -/
def Obligations.ColSample : Prop :=
  encode .colSample = 0x170000#24 ∧
  (∀ s : State, Ready s → exec .colSample s = .next { s with colResult := s.columns }) ∧
  (∀ (s : State) (c : BitVec 2),
    bitAt s.columns c = true ↔ ∃ r : BitVec 2, bitAt s.row r = true ∧ keyAt s.key r c = true) ∧
  (∀ s : State, s.row = 0 → s.columns = 0)

/-- 43_keypad_scanner, SETTLE_WAIT (R163) and QUIET_WAIT (R169), and 45_external_collaborators, the display wrapper
(R211, R212, R213), AUDIO_PULSE (R215) and WAIT (R216): no state change, performed whole, so with nothing falling
inside. That a delay is one micro-step, with any number of moves of the other agents before and after it, is the
model's reading (log 17), and so is that a collaborator returns (log 20). -/
def Obligations.NoStateChange : Prop :=
  encode .settleWait = 0x160000#24 ∧ encode .quietWait = 0x1A0000#24 ∧
  encode .audioPulse = 0x350000#24 ∧
  (∀ d : BitVec 16, encode (.wait d) = 0x1C0000#24 + d.setWidth 24) ∧
  (∀ b : Byte, encode (.lcdCmd b) = 0x310000#24 + b.setWidth 24 ∧
    encode (.lcdGlyph b) = 0x320000#24 + b.setWidth 24) ∧
  (∀ (row : BitVec 1) (col : BitVec 4),
    encode (.lcdCursor row col) = 0x330000#24 + (row.setWidth 24 <<< 4) + col.setWidth 24) ∧
  (∀ s : State, Ready s →
    exec .settleWait s = .next s ∧ exec .quietWait s = .next s ∧ exec .audioPulse s = .next s ∧
    (∀ d : BitVec 16, exec (.wait d) s = .next s) ∧
    (∀ b : Byte, exec (.lcdCmd b) s = .next s ∧ exec (.lcdGlyph b) s = .next s) ∧
    (∀ (row : BitVec 1) (col : BitVec 4), exec (.lcdCursor row col) s = .next s))

/-- 43_keypad_scanner, section 2 (the no-key fast path): with no key pressed KEY_SCAN returns NOKEY after exactly
four rounds of drive, settle, sample and restore, without a hold; and, whatever the keys do meanwhile, a round whose
sample is 0000 leads to the next row's round, and after the last row to NOKEY. The entry, the delay and the merged
test as one micro-step each, which the count adds up, are the model's choice (log 6, 17), and so are the place of
the results (log 11) and the micro-step in which KS_PHASE changes (log 27). -/
def Obligations.KeyScanNoKey : Prop :=
  encode .keyScan = 0x140000#24 ∧
  (∀ s : State, Ready s → s.pinsConfigured = true → NoKey s →
    exec .keyScan s = .next (scannedNoKey s) ∧
    pollingTurn^[1 + 4 * 4] (givePoll .keyScan s) = scannedNoKey s) ∧
  (∀ (s : State) (rest : List Task), Unfaulted s → s.tick.todo = [] → s.poll = ⟨.scanRestore :: rest, 0⟩ →
    s.colResult = 0 →
    (s.ksRow ≠ 3 →
      pollingTurn s =
        { s with
          row := setBitAt s.row s.ksRow false, ksRow := s.ksRow + 1, ksPhase := .drive,
          poll := ⟨.scanDrive :: .scanSettle :: .scanSample :: .scanRestore :: rest, 0⟩ }) ∧
    (s.ksRow = 3 →
      pollingTurn s =
        { s with
          row := setBitAt s.row s.ksRow false, ksPhase := .idle, keyResult := Config.noKey,
          poll := ⟨rest, 0⟩ }))

/-- 43_keypad_scanner, section 2 (selection priority): with keys that do not change during the scan, the key taken
is the one with the earliest row and in it the least column, and the scan stands in its release-wait with that key;
whatever the keys do, a round whose sample is not 0000 takes the least column of it and drives no later row. The
merged test (log 6), the place of the sample (log 11) and the micro-step in which KS_PHASE changes (log 27) are the
model's choice. -/
def Obligations.KeyScanHit : Prop :=
  (∀ (s : State) (r c : BitVec 2), Ready s → s.pinsConfigured = true → s.row = 0 →
    FirstKey s.key r c →
      exec .keyScan s = .next (scanHeld r c [] s) ∧ Holding (scanHeld r c [] s)) ∧
  (∀ (s : State) (rest : List Task), Unfaulted s → s.tick.todo = [] → s.poll = ⟨.scanRestore :: rest, 0⟩ →
    s.colResult ≠ 0 →
    ∃ c : BitVec 2, bitAt s.colResult c = true ∧
      (∀ c' : BitVec 2, bitAt s.colResult c' = true → c.toNat ≤ c'.toNat) ∧
      pollingTurn s =
        { s with
          row := setBitAt s.row s.ksRow false, ksHit := some (s.ksRow, c), ksPhase := .release,
          poll := ⟨.releaseWait :: .scanQuiet :: .scanReturn :: rest, 0⟩ })

/-- 43_keypad_scanner, section 3 (the returned code): once the watched columns are seen released, the scan drives no
row, passes its quiet period and returns the code of the key it found, whatever the keys are then; what KEY_SCAN
returned is one of the 16 legal codes or NOKEY, after every step. The count of turns (log 6, 17), the place of the
result (log 11) and the micro-steps in which KS_PHASE changes (log 27) are the model's choice. -/
def Obligations.KeyReturned : Prop :=
  (∀ (s : State) (r c : BitVec 2) (rest : List Task), Unfaulted s → s.tick.todo = [] →
    s.poll = ⟨.releaseWait :: .scanQuiet :: .scanReturn :: rest, 1⟩ → s.ksHit = some (r, c) →
    s.columns = 0 →
      pollingTurn^[4] s =
        { s with row := 0, ksPhase := .idle, keyResult := keyCode r c, poll := ⟨rest, 0⟩ }) ∧
  (∀ (s : State) (r c : BitVec 2) (k : KeyMatrix) (rest : List Task), Unfaulted s → s.tick.todo = [] →
    s.poll = ⟨.scanQuiet :: .scanReturn :: rest, 0⟩ → s.ksHit = some (r, c) →
      pollingTurn (pollingTurn { s with key := k }) =
        { s with key := k, ksPhase := .idle, keyResult := keyCode r c, poll := ⟨rest, 0⟩ }) ∧
  (∀ r c : BitVec 2,
    keyCode r c = ((r.setWidth 8 + Config.keyBase) <<< 4) ||| (c.setWidth 8 + Config.keyBase)) ∧
  (∀ s s' : State, Unfaulted s → KeyResultLegal s → step s = .next s' → KeyResultLegal s')

/-- 43_keypad_scanner R171: while the hold lasts the polling context takes no step; nothing but a move of a key
can lift it; the timer and the handler go on as without it. -/
def Obligations.HeldKeyBlocks : Prop :=
  ∀ s : State, Unfaulted s → Holding s →
    pollingTurn s = s ∧
    (∀ m : Mover, (∀ (level : Bool) (r c : BitVec 2), m ≠ .key level r c) → Holding (takeTurn m s)) ∧
    (∀ a : Agenda Task,
      takeTurn .timer { s with poll := a } = { takeTurn .timer s with poll := a } ∧
      takeTurn .interrupt { s with poll := a } = { takeTurn .interrupt s with poll := a })

/-- 43_keypad_scanner, section 3 (release-wait): RELEASE_WAIT after a hit selects the rows RELEASE_ROWS says; it ends,
restoring all rows, where one snapshot shows all four columns unasserted, and is held where it does not; once such a
snapshot was seen the rows are restored whatever the columns show then. The await as a turn of its own, apart from the
restoring one, and so the two turns counted, are the model's choice (log 6). -/
def Obligations.ReleaseWait : Prop :=
  encode .releaseWait = 0x190000#24 ∧
  (∀ (r : BitVec 2) (row : BitVec 4),
    releaseSelect .accepted r row = setBitAt row r true ∧ releaseSelect .all r row = 0xF#4) ∧
  (∀ (s : State) (r c : BitVec 2), Ready s → s.ksHit = some (r, c) →
    exec .releaseWait s =
      .next (if colSnapshot (releaseSelect Config.releaseRows r s.row) s.key = 0 then { s with row := 0 }
        else { s with
          row := releaseSelect Config.releaseRows r s.row, poll := ⟨[.releaseWait], 1⟩ })) ∧
  (∀ (s : State) (rest : List Task), Unfaulted s → s.tick.todo = [] → s.poll = ⟨.releaseWait :: rest, 1⟩ →
    (s.columns ≠ 0 → pollingTurn s = s) ∧
    (s.columns = 0 → pollingTurn s = { s with poll := ⟨.releaseWait :: rest, 2⟩ }) ∧
    (s.columns = 0 → pollingTurn (pollingTurn s) = { s with row := 0, poll := ⟨rest, 0⟩ })) ∧
  (∀ (s : State) (k : KeyMatrix) (rest : List Task), Unfaulted s → s.tick.todo = [] →
    s.poll = ⟨.releaseWait :: rest, 2⟩ →
      pollingTurn { s with key := k } = { s with key := k, row := 0, poll := ⟨rest, 0⟩ })

/-- 43_keypad_scanner R174 and 44_game_loop R196: the environment's moves, enabled in every state, a faulted one too
("Enabled always"; the environment is no part of the block), and the only thing they change; the same as a turn of the
environment. -/
def Obligations.EnvMoves : Prop :=
  (∀ (level : Bool) (r c : BitVec 2),
    encode (.envKey level r c) =
      0x400000#24 + ((BitVec.ofBool level).setWidth 24 <<< 8) + (r.setWidth 24 <<< 4) + c.setWidth 24) ∧
  (∀ level : Bool, encode (.envSw level) = 0x410000#24 + (BitVec.ofBool level).setWidth 24) ∧
  (∀ (s : State) (level : Bool) (r c : BitVec 2), ∃ t : State,
    exec (.envKey level r c) s = .next t ∧ takeTurn (.key level r c) s = t ∧
    t = { s with key := t.key } ∧
    ∀ r' c' : BitVec 2, keyAt t.key r' c' = if r' = r ∧ c' = c then level else keyAt s.key r' c') ∧
  (∀ (s : State) (level : Bool),
    exec (.envSw level) s = .next { s with sw := level } ∧
    takeTurn (.switch level) s = { s with sw := level })

/-- 30_encoding, section 3, and log 12 (the K_* of one state are distinct legal codes): the 16 codes are
distinct, row in the upper and column in the lower nibble, and NOKEY is none of them; the key codes of a state of
the Game Loop are distinct and none is NOKEY. -/
def Obligations.KeyCodes : Prop :=
  (∀ r c : BitVec 2, (keyCode r c).toNat = 16 * r.toNat + c.toNat ∧ keyCode r c ≠ Config.noKey) ∧
  (∀ r c r' c' : BitVec 2, keyCode r c = keyCode r' c' → r = r' ∧ c = c') ∧
  ([kPlay, kExit, kStore].Nodup ∧ [kTier 0, kTier 1].Nodup ∧ [kBuy 0, kBuy 1, kBuy 2, kBack].Nodup) ∧
  (∀ k ∈ [kPlay, kExit, kStore, kTier 0, kTier 1, kBuy 0, kBuy 1, kBuy 2, kBack],
    k ≠ Config.noKey ∧ ∃ r c : BitVec 2, k = keyCode r c)

/-- 43_keypad_scanner, section 4 (the scanner and the tick): a turn of the timer or of the interrupt context
neither reads nor writes a scanner field, a keypad line or the polling context's place; a micro-step of a scanner
task neither reads nor writes the tick side or the Shared State Surface. -/
def Obligations.ScannerIndependence : Prop :=
  (∀ (s : State) (m : Mover) (row : BitVec 4) (ph : KsPhase) (kr : BitVec 2)
    (hit : Option (BitVec 2 × BitVec 2)) (k : KeyMatrix) (res : Byte) (cols : BitVec 4) (a : Agenda Task),
    Unfaulted s → (m = .timer ∨ m = .interrupt) →
      takeTurn m { s with
          row := row, ksPhase := ph, ksRow := kr, ksHit := hit, key := k, keyResult := res,
          colResult := cols, poll := a } =
        { takeTurn m s with
          row := row, ksPhase := ph, ksRow := kr, ksHit := hit, key := k, keyResult := res,
          colResult := cols, poll := a }) ∧
  (∀ (t : Task) (stage : Nat) (s u : State), Unfaulted s → (rowTask t = true ∨ t = .keyScan) →
    u.pinsConfigured = s.pinsConfigured → u.faults = s.faults → u.draws = s.draws → u.row = s.row →
    u.ksPhase = s.ksPhase → u.ksRow = s.ksRow → u.ksHit = s.ksHit → u.key = s.key →
    u.keyResult = s.keyResult → u.colResult = s.colResult →
      (taskStep t stage u).2 = (taskStep t stage s).2 ∧
      ∃ w : State, w = (taskStep t stage s).1 ∧
        (taskStep t stage u).1 =
          { u with
            faults := w.faults, draws := w.draws, row := w.row, ksPhase := w.ksPhase, ksRow := w.ksRow,
            ksHit := w.ksHit, keyResult := w.keyResult, colResult := w.colResult })

/-! ## What each context may write (20_memory) -/

/-- 20_memory, section 1, the access matrix of the Shared State Surface: the only values or changes a micro-step
of each context may write, and the fields it never writes. -/
def Obligations.AccessMatrix : Prop :=
  (∀ s s' : State, Unfaulted s → pollStep s = some s' →
    (s'.glowArmed = s.glowArmed ∨ s'.glowArmed = true) ∧
    (s'.glowCount = s.glowCount ∨ s'.glowCount = Config.glowDuration) ∧
    (s'.glowPin = s.glowPin ∨ s'.glowPin = true) ∧
    (s'.alarmArmed = s.alarmArmed ∨ s'.alarmArmed = true) ∧
    (s'.alarmCount = s.alarmCount ∨ s'.alarmCount = 0) ∧
    (s'.alarmPin = s.alarmPin ∨ s'.alarmPin = true) ∧
    s'.tickPending = s.tickPending ∧ s'.paceCount = s.paceCount ∧ s'.digitSlot = s.digitSlot ∧
    s'.an = s.an ∧ s'.seg = s.seg ∧ s'.key = s.key ∧ s'.sw = s.sw) ∧
  (∀ s s' : State, Unfaulted s → tickStep s = some s' →
    (s'.glowArmed = s.glowArmed ∨ s'.glowArmed = false) ∧
    (s'.glowCount = s.glowCount ∨ s'.glowCount = s.glowCount - 1) ∧
    (s'.glowPin = s.glowPin ∨ s'.glowPin = false) ∧
    (s'.alarmArmed = s.alarmArmed ∨ s'.alarmArmed = false) ∧
    (s'.alarmCount = s.alarmCount ∨ s'.alarmCount = s.alarmCount + 1) ∧
    (s'.alarmPin = s.alarmPin ∨ s'.alarmPin = !s.alarmPin ∨ s'.alarmPin = false) ∧
    s' = { s with
      glowArmed := s'.glowArmed, glowCount := s'.glowCount, glowPin := s'.glowPin,
      alarmArmed := s'.alarmArmed, alarmCount := s'.alarmCount, alarmPin := s'.alarmPin,
      tickPending := s'.tickPending, paceCount := s'.paceCount, digitSlot := s'.digitSlot,
      an := s'.an, seg := s'.seg, faults := s'.faults, tick := s'.tick })

/-- 60_exceptions, section 1 (the fault record): `raise` adds its fault and keeps those there; the operation that
raised ends with no later write, and with its callers (46_arithmetic_and_sequencing, sequencing inside an agent);
nothing but RESET removes a fault, and RESET empties the set. That what was put behind the raising operation is
dropped with it, as the emptied agenda says, is the model's choice (log 8). It is about the record of faults in
every state, and is true whether a faulted machine goes on or stops (log 9). -/
def Obligations.FaultsSticky : Prop :=
  (∀ (s : State) (f g : FaultName),
    (raise f s).faults.holds g = (decide (g = f) || s.faults.holds g)) ∧
  (∀ s s' : State, pollStep s = some s' →
    s'.faults = s.faults ∨
      s' = { s with faults := s.faults.add .bootOrder, poll := Agenda.idle }) ∧
  (∀ s s' : State, tickStep s = some s' →
    s'.faults = s.faults ∨
      ∃ f : FaultName, s' = { s with faults := s.faults.add f, tick := Agenda.idle }) ∧
  (∀ (i : Instr) (s s' : State) (f : FaultName), i ≠ .reset → exec i s = .next s' →
    s.faults.holds f = true → s'.faults.holds f = true) ∧
  (∀ (m : Mover) (s : State) (f : FaultName),
    s.faults.holds f = true → (takeTurn m s).faults.holds f = true) ∧
  (∀ s s' : State, exec .reset s = .next s' → s'.faults = FaultSet.empty)

/-- 60_exceptions, section 5 (the end of a run): in a quiescent state ticks change only PaceCount, DigitSlot, AN and
SEG, and from the first tick on cyclically; the polling context makes no further step. The premise that no fault is
raised is R222's ("takes Faults is empty as a premise"). Where TickRun = 0 the ticks are moves that change nothing
(log 4). -/
def Obligations.Quiescence : Prop :=
  ∀ s : State, Quiescent s → TickReady s → s.poll = Agenda.idle →
    pollingTurn s = s ∧
    (∀ n : Nat, Unfaulted (tickTimes n s) →
      runInstrs (tickWords n) s = .next (tickTimes n s) ∧
      (∃ (p : Nat) (d : BitVec 2) (a : BitVec 4) (g : BitVec 7),
        tickTimes n s = { s with paceCount := p, digitSlot := d, an := a, seg := g }) ∧
      (1 ≤ n → s.paceCount < Config.effectDiv →
        tickTimes (n + 4 * Config.effectDiv) s = tickTimes n s))

/-! ## The Game Loop (44_game_loop) -/

/-- 44_game_loop, GAME_BOOT: pin configuration, tick source, Menu; everything else as before (log 21 for the quiz
gate; `booted` is the model's record that it has run, log 11). 46_arithmetic_and_sequencing, the sequencing of the
polling context: between two operations it begins GAME_BOOT once, then exactly the iteration GameState selects, and
in Exit nothing. -/
def Obligations.GameBoot : Prop :=
  encode .gameBoot = 0x200000#24 ∧
  (∀ s : State, Ready s →
    exec .gameBoot s =
      .next { s with pinsConfigured := true, tickRun := true, gameState := .menu, booted := true }) ∧
  (∀ s : State, Unfaulted s → s.tick.todo = [] → s.poll = Agenda.idle →
    (s.booted = false → s.gameState ≠ .exit → pollingTurn s = { s with poll := ⟨[.gameBoot], 0⟩ }) ∧
    (s.booted = true →
      (s.gameState = .menu → pollingTurn s = { s with poll := ⟨[.menuIter], 0⟩ }) ∧
      (s.gameState = .modeSelect → pollingTurn s = { s with poll := ⟨[.modeselIter], 0⟩ }) ∧
      (s.gameState = .playing → pollingTurn s = { s with poll := ⟨[.playStep], 0⟩ }) ∧
      (s.gameState = .store → pollingTurn s = { s with poll := ⟨[.storeIter], 0⟩ })) ∧
    (s.gameState = .exit → pollingTurn s = s)) ∧
  pollTask .gameBoot = some .gameBoot ∧ pollTask .menuIter = some .menuIter ∧
  pollTask .modeselIter = some .modeselIter ∧ pollTask .playStep = some .playStep ∧
  pollTask .storeIter = some .storeIter

/-- 44_game_loop, MENU_ITER, MODESEL_ITER, STORE_ITER with no key pressed: a KEY_SCAN that finds nothing and no
change of GameState; in Menu, DisplayValue refreshed with Currency where it fits the word. Without the pins
configured the scan raises BootOrder, which ends the iteration. The result fields it writes are the model's (log
11). -/
def Obligations.IterationsWithoutKey : Prop :=
  encode .menuIter = 0x210000#24 ∧ encode .modeselIter = 0x220000#24 ∧
  encode .storeIter = 0x290000#24 ∧
  (∀ s : State, Ready s → s.pinsConfigured = true → NoKey s →
    exec .modeselIter s = .next (scannedNoKey s) ∧ exec .storeIter s = .next (scannedNoKey s) ∧
    (s.currency < 2 ^ dvWidth →
      exec .menuIter s =
        .next (scannedNoKey { s with displayValue := BitVec.ofNat dvWidth s.currency }))) ∧
  (∀ s : State, Ready s → s.pinsConfigured = false →
    exec .modeselIter s = .next { s with faults := s.faults.add .bootOrder } ∧
    exec .storeIter s = .next { s with faults := s.faults.add .bootOrder } ∧
    (s.currency < 2 ^ dvWidth →
      exec .menuIter s =
        .next { s with
          displayValue := BitVec.ofNat dvWidth s.currency, faults := s.faults.add .bootOrder }))

/-- 44_game_loop, section on the iterations, with 43_keypad_scanner's hold: with a key pressed the iteration is
held by its scan's release-wait, and the test of the key code is what is left after it. The tasks left (log 6), the
field of the sample (log 11) and the phase (log 27) are the model's choice. -/
def Obligations.IterationsWithKey : Prop :=
  ∀ (s : State) (r c : BitVec 2), Ready s → s.pinsConfigured = true → s.row = 0 → FirstKey s.key r c →
    exec .modeselIter s = .next (scanHeld r c [.modeselRoute] s) ∧
    exec .storeIter s = .next (scanHeld r c [.storeRoute] s) ∧
    (s.currency < 2 ^ dvWidth →
      exec .menuIter s =
        .next (scanHeld r c [.menuRoute] { s with displayValue := BitVec.ofNat dvWidth s.currency }))

/-- 44_game_loop, MENU_ITER, MODESEL_ITER, STORE_ITER: what each key code does, NOKEY and every other code doing
nothing. The turns it takes (log 6) and the result field of PLAY_ENTER's MODE_READ (log 11) are the model's choice. -/
def Obligations.KeyRoutes : Prop :=
  (∀ s : State, Unfaulted s → s.tick.todo = [] → s.poll = ⟨[.menuRoute], 0⟩ →
    (s.keyResult = kPlay → pollingTurn s = { s with gameState := .modeSelect, poll := Agenda.idle }) ∧
    (s.keyResult = kExit →
      pollingTurn (pollingTurn s) = { s with gameState := .exit, poll := Agenda.idle }) ∧
    (s.keyResult = kStore → pollingTurn s = { s with gameState := .store, poll := Agenda.idle }) ∧
    (s.keyResult ≠ kPlay → s.keyResult ≠ kExit → s.keyResult ≠ kStore →
      pollingTurn s = { s with poll := Agenda.idle })) ∧
  (∀ s : State, Unfaulted s → s.tick.todo = [] → s.poll = ⟨[.modeselRoute], 0⟩ →
    (∀ t : BitVec 1, s.keyResult = kTier t →
      pollingTurn (pollingTurn s) =
        { s with
          speedTier := t, playerRow := Config.playerRow0, collect := Config.collectInit,
          hazard := Config.hazardInit, prevSw := s.sw, modeResult := s.sw, gameState := .playing,
          poll := Agenda.idle }) ∧
    (s.keyResult ≠ kTier 0 → s.keyResult ≠ kTier 1 →
      pollingTurn s = { s with poll := Agenda.idle })) ∧
  (∀ s : State, Unfaulted s → s.tick.todo = [] → s.poll = ⟨[.storeRoute], 0⟩ →
    (∀ i : Fin 3, s.keyResult = kBuy i → pollingTurn s = { s with poll := ⟨[.storePurchase i], 0⟩ }) ∧
    (s.keyResult = kBack → pollingTurn s = { s with gameState := .menu, poll := Agenda.idle }) ∧
    ((∀ i : Fin 3, s.keyResult ≠ kBuy i) → s.keyResult ≠ kBack →
      pollingTurn s = { s with poll := Agenda.idle }))

/-- 44_game_loop, PLAY_ENTER: the entities' places, PrevSw and GameState; that the MODE_READ inside it also leaves
its level in the model's result field is log 11's choice. -/
def Obligations.PlayEnter : Prop :=
  encode .playEnter = 0x230000#24 ∧
  (∀ s : State, Ready s →
    exec .playEnter s =
      .next { s with
        playerRow := Config.playerRow0, collect := Config.collectInit, hazard := Config.hazardInit,
        prevSw := s.sw, modeResult := s.sw, gameState := .playing })

/-- 44_game_loop, SW_EDGE: it flips the player's row on the edge SWITCH_EDGE names and remembers the level; that the
MODE_READ inside it also leaves the level in the model's result field is log 11's choice. -/
def Obligations.SwEdge : Prop :=
  encode .swEdge = 0x250000#24 ∧
  (∀ prev now : Bool,
    edgeFlips .rising prev now = decide (prev = false ∧ now = true) ∧
    edgeFlips .both prev now = decide (prev ≠ now)) ∧
  (∀ s : State, Ready s →
    exec .swEdge s =
      .next { s with
        playerRow :=
          if edgeFlips Config.switchEdge s.prevSw s.sw then flipLane s.playerRow else s.playerRow,
        prevSw := s.sw, modeResult := s.sw })

/-- 44_game_loop R187: ENT_ADVANCE moves its own entity one column down, 0 being followed by 15 with the row
flipped, and touches nothing else; an entity is back where it was after 32 advances and not before. -/
def Obligations.EntAdvance : Prop :=
  (∀ e : BitVec 2, encode (.entAdvance e) = 0x260000#24 + e.setWidth 24) ∧
  (∀ s : State, Ready s →
    exec (.entAdvance 0) s =
      .next { s with
        collect := if s.collect.col = 0 then ⟨flipLane s.collect.row, 15⟩
          else ⟨s.collect.row, s.collect.col - 1⟩ } ∧
    exec (.entAdvance 1) s =
      .next { s with
        hazard := if s.hazard.col = 0 then ⟨flipLane s.hazard.row, 15⟩
          else ⟨s.hazard.row, s.hazard.col - 1⟩ }) ∧
  (∀ (p : Pos) (n : Nat), 1 ≤ n → n ≤ 32 → (advancePos^[n] p = p ↔ n = 32))

/-- 44_game_loop, COLLECT_CHECK: on a match and without one; its four actions are parts in their order, and with a
tick pending the handler may begin between any two of them. That the test and the first action are one micro-step,
which leaves the other three as tasks, and that the DV_WRITE and the pulse are one micro-step each, is the model's
choice (log 6). -/
def Obligations.CollectCheck : Prop :=
  encode .collectCheck = 0x270000#24 ∧
  (∀ s : State, Ready s → s.collect = ⟨s.playerRow, Config.playerCol⟩ → s.currency + 1 < 2 ^ dvWidth →
    exec .collectCheck s =
      .next { s with
        currency := s.currency + 1, displayValue := BitVec.ofNat dvWidth (s.currency + 1),
        glowPin := true, glowCount := Config.glowDuration, glowArmed := true } ∧
    pollingTurn (givePoll .collectCheck s) =
      { s with
        currency := s.currency + 1, poll := ⟨[.dvCurrency, .call .audioPulse, .glowTrigger], 0⟩ }) ∧
  (∀ s : State, Ready s → s.collect ≠ ⟨s.playerRow, Config.playerCol⟩ → exec .collectCheck s = .next s) ∧
  (∀ (s : State) (rest : List Task), Unfaulted s → s.tick.todo = [] → s.tickPending = true →
    s.poll = ⟨.dvCurrency :: .call .audioPulse :: .glowTrigger :: rest, 0⟩ ∨
      s.poll = ⟨.call .audioPulse :: .glowTrigger :: rest, 0⟩ ∨ s.poll = ⟨.glowTrigger :: rest, 0⟩ →
      interruptTurn s = { s with tick := ⟨[.pace, .mux, .ack], 0⟩ }) ∧
  (∀ (s : State) (rest : List Task), Unfaulted s → s.tick.todo = [] →
    (s.poll = ⟨.dvCurrency :: rest, 0⟩ → s.currency < 2 ^ dvWidth →
      pollingTurn s = { s with displayValue := BitVec.ofNat dvWidth s.currency, poll := ⟨rest, 0⟩ }) ∧
    (s.poll = ⟨.call .audioPulse :: rest, 0⟩ → pollingTurn s = { s with poll := ⟨rest, 0⟩ }))

/-- 44_game_loop R189: HAZARD_CHECK on a match and without one. -/
def Obligations.HazardCheck : Prop :=
  encode .hazardCheck = 0x280000#24 ∧
  (∀ s : State, Ready s → s.hazard = ⟨s.playerRow, Config.playerCol⟩ →
    exec .hazardCheck s =
      .next { s with alarmPin := true, alarmCount := 0, alarmArmed := true, gameState := .menu }) ∧
  (∀ s : State, Ready s → s.hazard ≠ ⟨s.playerRow, Config.playerCol⟩ → exec .hazardCheck s = .next s)

/-- 44_game_loop R185: PLAY_STEP is SW_EDGE, both advances, the collect check and the hazard check, in that order;
its calls of the collaborators and its closing wait change nothing. -/
def Obligations.PlayStep : Prop :=
  encode .playStep = 0x240000#24 ∧
  (∀ s : State, Ready s → ∃ a b c d t : State,
    exec .swEdge s = .next a ∧ exec (.entAdvance 0) a = .next b ∧ exec (.entAdvance 1) b = .next c ∧
    exec .collectCheck c = .next d ∧ exec .hazardCheck d = .next t ∧ exec .playStep s = .next t)

/-- 44_game_loop R192: STORE_PURCHASE rejects below the price and otherwise debits, shows and records. -/
def Obligations.StorePurchase : Prop :=
  (∀ i : BitVec 2, encode (.storePurchase i) = 0x2A0000#24 + i.setWidth 24) ∧
  (∀ (s : State) (i : Fin 3), Ready s → s.currency - Config.price i < 2 ^ dvWidth →
    exec (.storePurchase (BitVec.ofNat 2 i.val)) s =
      .next (if s.currency < Config.price i then s
        else { s with
          currency := s.currency - Config.price i,
          displayValue := BitVec.ofNat dvWidth (s.currency - Config.price i),
          selectedGlyph := Config.glyph i }))

/-- 44_game_loop R194: GAME_EXIT; in Exit the polling context has no further step, and nothing else is stopped. -/
def Obligations.GameExit : Prop :=
  encode .gameExit = 0x2B0000#24 ∧
  (∀ s : State, Ready s →
    exec .gameExit s = .next { s with gameState := .exit } ∧
    pollingTurn { s with gameState := .exit } = { s with gameState := .exit })

/-- 44_game_loop, MODE_READ, and 45_external_collaborators, PIN_CONFIG: MODE_READ returns the switch level and changes
nothing else, PIN_CONFIG sets PinsConfigured, a second one nothing. That what MODE_READ returns stands in the field
modeResult is log 11's choice. -/
def Obligations.ModeReadAndPinConfig : Prop :=
  encode .modeRead = 0x1B0000#24 ∧ encode .pinConfig = 0x300000#24 ∧
  (∀ s : State, Ready s →
    exec .modeRead s = .next { s with modeResult := s.sw } ∧
    exec .pinConfig s = .next { s with pinsConfigured := true } ∧
    (s.pinsConfigured = true → exec .pinConfig s = .next s))

/-! ## What the spec leaves open, and stops -/

/-- Log 14, 15, 16 (free values): ADC_READ returns a draw; a RELEASE_WAIT with no accepted key selects the rows
RELEASE_ROWS says, under `accepted` rows that are a draw; a Currency that does not fit the word of DisplayValue
writes a draw there, everything else of the operation as its rule says. That draw is a word above DV_MAX, and any of
them (44_game_loop, Currency arithmetic; 93_implementation_defined U21): a Currency beyond DV_MAX that an operation
leaves and shows makes the next multiplexing step raise DisplayRange, of Currency itself where it fits the word. -/
def Obligations.FreeValues : Prop :=
  (∀ id : Byte, encode (.adcRead id) = 0x340000#24 + id.setWidth 24) ∧
  (∀ (s : State) (id : Byte), Ready s →
    exec (.adcRead id) s =
      .next { s with adcResult := Config.adcSample id s.draws, draws := s.draws + 1 }) ∧
  (∀ s : State, Ready s → s.ksHit = none → ∃ (rows : BitVec 4) (n : Nat),
    (rows, n) =
      (match Config.releaseRows with
        | .all => (0xF#4, s.draws)
        | .accepted => (Config.freeRows s.draws, s.draws + 1)) ∧
    exec .releaseWait s =
      .next (if colSnapshot rows s.key = 0 then { s with row := 0, draws := n }
        else { s with row := rows, draws := n, poll := ⟨[.releaseWait], 1⟩ })) ∧
  (∀ s : State, Ready s → 2 ^ dvWidth ≤ s.currency + 1 →
    s.collect = ⟨s.playerRow, Config.playerCol⟩ →
      exec .collectCheck s =
        .next { s with
          currency := s.currency + 1, displayValue := overflowWord (Config.freeDisplay s.draws),
          draws := s.draws + 1,
          glowPin := true, glowCount := Config.glowDuration, glowArmed := true }) ∧
  (∀ s : State, Ready s → s.pinsConfigured = true → NoKey s → 2 ^ dvWidth ≤ s.currency →
    exec .menuIter s =
      .next (scannedNoKey
        { s with displayValue := overflowWord (Config.freeDisplay s.draws), draws := s.draws + 1 })) ∧
  (∀ (s : State) (i : Fin 3), Ready s → Config.price i ≤ s.currency →
    2 ^ dvWidth ≤ s.currency - Config.price i →
      exec (.storePurchase (BitVec.ofNat 2 i.val)) s =
        .next { s with
          currency := s.currency - Config.price i,
          displayValue := overflowWord (Config.freeDisplay s.draws),
          draws := s.draws + 1, selectedGlyph := Config.glyph i }) ∧
  (∀ n : Nat, Config.dvMax < (overflowWord n).toNat) ∧
  (∀ w : BitVec dvWidth, Config.dvMax < w.toNat → ∃ n : Nat, overflowWord n = w) ∧
  (∀ (i : Instr) (s : State), Ready s →
    (i = .collectCheck ∧ s.collect = ⟨s.playerRow, Config.playerCol⟩ ∧ Config.dvMax < s.currency + 1) ∨
      (i = .menuIter ∧ s.pinsConfigured = true ∧ NoKey s ∧ Config.dvMax < s.currency) ∨
      (∃ g : Fin 3, i = .storePurchase (BitVec.ofNat 2 g.val) ∧
        Config.price g + Config.dvMax < s.currency) →
    ∃ t u : State, exec i s = .next t ∧ Config.dvMax < t.currency ∧ exec .muxStep t = .next u ∧
      u.faults.holds (.displayRange t.displayValue.toNat) = true ∧
      (t.currency < 2 ^ dvWidth → t.displayValue.toNat = t.currency))

/-- 30_encoding, section 2 (the operand values marked illegal): the three ill-formed operations are refused by
name, and no word decodes to one. That every other operation answers a next state in every state is the model's
choice where the spec gives the operation no step or no such move: TMR_FIRE and TICK_HANDLER where they are not enabled
answer the same state (log 4; 40_tick_source, R101 and R102); a sub-operation of the handler is performed alone (log
5), an operation of the Game Loop in any GameState (log 7), a polling operation of a busy context behind the earlier one
(log 8); and a faulted state answers too, as it would if the agents stopped there and it stood still (R222, log 9). -/
def Obligations.OnlyIllegalOperandsStop : Prop :=
  (∀ (i : Instr) (s : State), i.wellFormed = false →
    exec i s = .refused .illegalOperand ∧ ∀ w : OpWord, decode w ≠ .ok i) ∧
  (∀ (i : Instr) (s : State), i.wellFormed = true → ∃ t : State, exec i s = .next t)

/-- 60_exceptions, section 5 (where the polling context may never proceed): an operation of the polling context
performed whole ends with that context between two operations, or in the hold of a release-wait; there is no
third case. -/
def Obligations.EndsIdleOrHolding : Prop :=
  ∀ (i : Instr) (s t : State), Unfaulted s → i.agent = .poll → s.poll = Agenda.idle → exec i s = .next t →
    t.tick.todo = [] ∧ (t.poll = Agenda.idle ∨ Holding t)
end

