-- ==== Sys2Proof/Laws/State.lean ====
section
/-! SUPPORT. What each single-field update of State leaves in each field, so that no proof unfolds a record
update. -/

namespace Sys2Proof.Machine

/-! ### raise -/

@[simp] theorem raise_pinsConfigured (f : FaultName) (s : State) : (raise f s).pinsConfigured = s.pinsConfigured := rfl
@[simp] theorem raise_tickRun (f : FaultName) (s : State) : (raise f s).tickRun = s.tickRun := rfl
@[simp] theorem raise_tickPending (f : FaultName) (s : State) : (raise f s).tickPending = s.tickPending := rfl
@[simp] theorem raise_paceCount (f : FaultName) (s : State) : (raise f s).paceCount = s.paceCount := rfl
@[simp] theorem raise_displayValue (f : FaultName) (s : State) : (raise f s).displayValue = s.displayValue := rfl
@[simp] theorem raise_digitSlot (f : FaultName) (s : State) : (raise f s).digitSlot = s.digitSlot := rfl
@[simp] theorem raise_an (f : FaultName) (s : State) : (raise f s).an = s.an := rfl
@[simp] theorem raise_seg (f : FaultName) (s : State) : (raise f s).seg = s.seg := rfl
@[simp] theorem raise_glowArmed (f : FaultName) (s : State) : (raise f s).glowArmed = s.glowArmed := rfl
@[simp] theorem raise_glowCount (f : FaultName) (s : State) : (raise f s).glowCount = s.glowCount := rfl
@[simp] theorem raise_glowPin (f : FaultName) (s : State) : (raise f s).glowPin = s.glowPin := rfl
@[simp] theorem raise_alarmArmed (f : FaultName) (s : State) : (raise f s).alarmArmed = s.alarmArmed := rfl
@[simp] theorem raise_alarmCount (f : FaultName) (s : State) : (raise f s).alarmCount = s.alarmCount := rfl
@[simp] theorem raise_alarmPin (f : FaultName) (s : State) : (raise f s).alarmPin = s.alarmPin := rfl
@[simp] theorem raise_row (f : FaultName) (s : State) : (raise f s).row = s.row := rfl
@[simp] theorem raise_ksPhase (f : FaultName) (s : State) : (raise f s).ksPhase = s.ksPhase := rfl
@[simp] theorem raise_ksRow (f : FaultName) (s : State) : (raise f s).ksRow = s.ksRow := rfl
@[simp] theorem raise_ksHit (f : FaultName) (s : State) : (raise f s).ksHit = s.ksHit := rfl
@[simp] theorem raise_key (f : FaultName) (s : State) : (raise f s).key = s.key := rfl
@[simp] theorem raise_sw (f : FaultName) (s : State) : (raise f s).sw = s.sw := rfl
@[simp] theorem raise_gameState (f : FaultName) (s : State) : (raise f s).gameState = s.gameState := rfl
@[simp] theorem raise_speedTier (f : FaultName) (s : State) : (raise f s).speedTier = s.speedTier := rfl
@[simp] theorem raise_playerRow (f : FaultName) (s : State) : (raise f s).playerRow = s.playerRow := rfl
@[simp] theorem raise_collect (f : FaultName) (s : State) : (raise f s).collect = s.collect := rfl
@[simp] theorem raise_hazard (f : FaultName) (s : State) : (raise f s).hazard = s.hazard := rfl
@[simp] theorem raise_currency (f : FaultName) (s : State) : (raise f s).currency = s.currency := rfl
@[simp] theorem raise_selectedGlyph (f : FaultName) (s : State) : (raise f s).selectedGlyph = s.selectedGlyph := rfl
@[simp] theorem raise_prevSw (f : FaultName) (s : State) : (raise f s).prevSw = s.prevSw := rfl
@[simp] theorem raise_faults (f : FaultName) (s : State) : (raise f s).faults = s.faults.add f := rfl
@[simp] theorem raise_keyResult (f : FaultName) (s : State) : (raise f s).keyResult = s.keyResult := rfl
@[simp] theorem raise_colResult (f : FaultName) (s : State) : (raise f s).colResult = s.colResult := rfl
@[simp] theorem raise_modeResult (f : FaultName) (s : State) : (raise f s).modeResult = s.modeResult := rfl
@[simp] theorem raise_adcResult (f : FaultName) (s : State) : (raise f s).adcResult = s.adcResult := rfl
@[simp] theorem raise_poll (f : FaultName) (s : State) : (raise f s).poll = s.poll := rfl
@[simp] theorem raise_tick (f : FaultName) (s : State) : (raise f s).tick = s.tick := rfl
@[simp] theorem raise_booted (f : FaultName) (s : State) : (raise f s).booted = s.booted := rfl
@[simp] theorem raise_script (f : FaultName) (s : State) : (raise f s).script = s.script := rfl
@[simp] theorem raise_turn (f : FaultName) (s : State) : (raise f s).turn = s.turn := rfl
@[simp] theorem raise_draws (f : FaultName) (s : State) : (raise f s).draws = s.draws := rfl

/-! ### enterHandler -/

@[simp] theorem enterHandler_pinsConfigured (s : State) : (enterHandler s).pinsConfigured = s.pinsConfigured := rfl
@[simp] theorem enterHandler_tickRun (s : State) : (enterHandler s).tickRun = s.tickRun := rfl
@[simp] theorem enterHandler_tickPending (s : State) : (enterHandler s).tickPending = s.tickPending := rfl
@[simp] theorem enterHandler_paceCount (s : State) : (enterHandler s).paceCount = s.paceCount := rfl
@[simp] theorem enterHandler_displayValue (s : State) : (enterHandler s).displayValue = s.displayValue := rfl
@[simp] theorem enterHandler_digitSlot (s : State) : (enterHandler s).digitSlot = s.digitSlot := rfl
@[simp] theorem enterHandler_an (s : State) : (enterHandler s).an = s.an := rfl
@[simp] theorem enterHandler_seg (s : State) : (enterHandler s).seg = s.seg := rfl
@[simp] theorem enterHandler_glowArmed (s : State) : (enterHandler s).glowArmed = s.glowArmed := rfl
@[simp] theorem enterHandler_glowCount (s : State) : (enterHandler s).glowCount = s.glowCount := rfl
@[simp] theorem enterHandler_glowPin (s : State) : (enterHandler s).glowPin = s.glowPin := rfl
@[simp] theorem enterHandler_alarmArmed (s : State) : (enterHandler s).alarmArmed = s.alarmArmed := rfl
@[simp] theorem enterHandler_alarmCount (s : State) : (enterHandler s).alarmCount = s.alarmCount := rfl
@[simp] theorem enterHandler_alarmPin (s : State) : (enterHandler s).alarmPin = s.alarmPin := rfl
@[simp] theorem enterHandler_row (s : State) : (enterHandler s).row = s.row := rfl
@[simp] theorem enterHandler_ksPhase (s : State) : (enterHandler s).ksPhase = s.ksPhase := rfl
@[simp] theorem enterHandler_ksRow (s : State) : (enterHandler s).ksRow = s.ksRow := rfl
@[simp] theorem enterHandler_ksHit (s : State) : (enterHandler s).ksHit = s.ksHit := rfl
@[simp] theorem enterHandler_key (s : State) : (enterHandler s).key = s.key := rfl
@[simp] theorem enterHandler_sw (s : State) : (enterHandler s).sw = s.sw := rfl
@[simp] theorem enterHandler_gameState (s : State) : (enterHandler s).gameState = s.gameState := rfl
@[simp] theorem enterHandler_speedTier (s : State) : (enterHandler s).speedTier = s.speedTier := rfl
@[simp] theorem enterHandler_playerRow (s : State) : (enterHandler s).playerRow = s.playerRow := rfl
@[simp] theorem enterHandler_collect (s : State) : (enterHandler s).collect = s.collect := rfl
@[simp] theorem enterHandler_hazard (s : State) : (enterHandler s).hazard = s.hazard := rfl
@[simp] theorem enterHandler_currency (s : State) : (enterHandler s).currency = s.currency := rfl
@[simp] theorem enterHandler_selectedGlyph (s : State) : (enterHandler s).selectedGlyph = s.selectedGlyph := rfl
@[simp] theorem enterHandler_prevSw (s : State) : (enterHandler s).prevSw = s.prevSw := rfl
@[simp] theorem enterHandler_faults (s : State) : (enterHandler s).faults = s.faults := rfl
@[simp] theorem enterHandler_keyResult (s : State) : (enterHandler s).keyResult = s.keyResult := rfl
@[simp] theorem enterHandler_colResult (s : State) : (enterHandler s).colResult = s.colResult := rfl
@[simp] theorem enterHandler_modeResult (s : State) : (enterHandler s).modeResult = s.modeResult := rfl
@[simp] theorem enterHandler_adcResult (s : State) : (enterHandler s).adcResult = s.adcResult := rfl
@[simp] theorem enterHandler_poll (s : State) : (enterHandler s).poll = s.poll := rfl
@[simp] theorem enterHandler_tick (s : State) : (enterHandler s).tick = ⟨[.pace, .mux, .ack], 0⟩ := rfl
@[simp] theorem enterHandler_booted (s : State) : (enterHandler s).booted = s.booted := rfl
@[simp] theorem enterHandler_script (s : State) : (enterHandler s).script = s.script := rfl
@[simp] theorem enterHandler_turn (s : State) : (enterHandler s).turn = s.turn := rfl
@[simp] theorem enterHandler_draws (s : State) : (enterHandler s).draws = s.draws := rfl

/-! ### acknowledge -/

@[simp] theorem acknowledge_pinsConfigured (s : State) : (acknowledge s).pinsConfigured = s.pinsConfigured := rfl
@[simp] theorem acknowledge_tickRun (s : State) : (acknowledge s).tickRun = s.tickRun := rfl
@[simp] theorem acknowledge_tickPending (s : State) : (acknowledge s).tickPending = false := rfl
@[simp] theorem acknowledge_paceCount (s : State) : (acknowledge s).paceCount = s.paceCount := rfl
@[simp] theorem acknowledge_displayValue (s : State) : (acknowledge s).displayValue = s.displayValue := rfl
@[simp] theorem acknowledge_digitSlot (s : State) : (acknowledge s).digitSlot = s.digitSlot := rfl
@[simp] theorem acknowledge_an (s : State) : (acknowledge s).an = s.an := rfl
@[simp] theorem acknowledge_seg (s : State) : (acknowledge s).seg = s.seg := rfl
@[simp] theorem acknowledge_glowArmed (s : State) : (acknowledge s).glowArmed = s.glowArmed := rfl
@[simp] theorem acknowledge_glowCount (s : State) : (acknowledge s).glowCount = s.glowCount := rfl
@[simp] theorem acknowledge_glowPin (s : State) : (acknowledge s).glowPin = s.glowPin := rfl
@[simp] theorem acknowledge_alarmArmed (s : State) : (acknowledge s).alarmArmed = s.alarmArmed := rfl
@[simp] theorem acknowledge_alarmCount (s : State) : (acknowledge s).alarmCount = s.alarmCount := rfl
@[simp] theorem acknowledge_alarmPin (s : State) : (acknowledge s).alarmPin = s.alarmPin := rfl
@[simp] theorem acknowledge_row (s : State) : (acknowledge s).row = s.row := rfl
@[simp] theorem acknowledge_ksPhase (s : State) : (acknowledge s).ksPhase = s.ksPhase := rfl
@[simp] theorem acknowledge_ksRow (s : State) : (acknowledge s).ksRow = s.ksRow := rfl
@[simp] theorem acknowledge_ksHit (s : State) : (acknowledge s).ksHit = s.ksHit := rfl
@[simp] theorem acknowledge_key (s : State) : (acknowledge s).key = s.key := rfl
@[simp] theorem acknowledge_sw (s : State) : (acknowledge s).sw = s.sw := rfl
@[simp] theorem acknowledge_gameState (s : State) : (acknowledge s).gameState = s.gameState := rfl
@[simp] theorem acknowledge_speedTier (s : State) : (acknowledge s).speedTier = s.speedTier := rfl
@[simp] theorem acknowledge_playerRow (s : State) : (acknowledge s).playerRow = s.playerRow := rfl
@[simp] theorem acknowledge_collect (s : State) : (acknowledge s).collect = s.collect := rfl
@[simp] theorem acknowledge_hazard (s : State) : (acknowledge s).hazard = s.hazard := rfl
@[simp] theorem acknowledge_currency (s : State) : (acknowledge s).currency = s.currency := rfl
@[simp] theorem acknowledge_selectedGlyph (s : State) : (acknowledge s).selectedGlyph = s.selectedGlyph := rfl
@[simp] theorem acknowledge_prevSw (s : State) : (acknowledge s).prevSw = s.prevSw := rfl
@[simp] theorem acknowledge_faults (s : State) : (acknowledge s).faults = s.faults := rfl
@[simp] theorem acknowledge_keyResult (s : State) : (acknowledge s).keyResult = s.keyResult := rfl
@[simp] theorem acknowledge_colResult (s : State) : (acknowledge s).colResult = s.colResult := rfl
@[simp] theorem acknowledge_modeResult (s : State) : (acknowledge s).modeResult = s.modeResult := rfl
@[simp] theorem acknowledge_adcResult (s : State) : (acknowledge s).adcResult = s.adcResult := rfl
@[simp] theorem acknowledge_poll (s : State) : (acknowledge s).poll = s.poll := rfl
@[simp] theorem acknowledge_tick (s : State) : (acknowledge s).tick = s.tick := rfl
@[simp] theorem acknowledge_booted (s : State) : (acknowledge s).booted = s.booted := rfl
@[simp] theorem acknowledge_script (s : State) : (acknowledge s).script = s.script := rfl
@[simp] theorem acknowledge_turn (s : State) : (acknowledge s).turn = s.turn := rfl
@[simp] theorem acknowledge_draws (s : State) : (acknowledge s).draws = s.draws := rfl

/-! ### fireTimer -/

@[simp] theorem fireTimer_pinsConfigured (s : State) : (fireTimer s).pinsConfigured = s.pinsConfigured := rfl
@[simp] theorem fireTimer_tickRun (s : State) : (fireTimer s).tickRun = s.tickRun := rfl
@[simp] theorem fireTimer_tickPending (s : State) : (fireTimer s).tickPending = pendingAfterFire s.tickRun s.tickPending := rfl
@[simp] theorem fireTimer_paceCount (s : State) : (fireTimer s).paceCount = s.paceCount := rfl
@[simp] theorem fireTimer_displayValue (s : State) : (fireTimer s).displayValue = s.displayValue := rfl
@[simp] theorem fireTimer_digitSlot (s : State) : (fireTimer s).digitSlot = s.digitSlot := rfl
@[simp] theorem fireTimer_an (s : State) : (fireTimer s).an = s.an := rfl
@[simp] theorem fireTimer_seg (s : State) : (fireTimer s).seg = s.seg := rfl
@[simp] theorem fireTimer_glowArmed (s : State) : (fireTimer s).glowArmed = s.glowArmed := rfl
@[simp] theorem fireTimer_glowCount (s : State) : (fireTimer s).glowCount = s.glowCount := rfl
@[simp] theorem fireTimer_glowPin (s : State) : (fireTimer s).glowPin = s.glowPin := rfl
@[simp] theorem fireTimer_alarmArmed (s : State) : (fireTimer s).alarmArmed = s.alarmArmed := rfl
@[simp] theorem fireTimer_alarmCount (s : State) : (fireTimer s).alarmCount = s.alarmCount := rfl
@[simp] theorem fireTimer_alarmPin (s : State) : (fireTimer s).alarmPin = s.alarmPin := rfl
@[simp] theorem fireTimer_row (s : State) : (fireTimer s).row = s.row := rfl
@[simp] theorem fireTimer_ksPhase (s : State) : (fireTimer s).ksPhase = s.ksPhase := rfl
@[simp] theorem fireTimer_ksRow (s : State) : (fireTimer s).ksRow = s.ksRow := rfl
@[simp] theorem fireTimer_ksHit (s : State) : (fireTimer s).ksHit = s.ksHit := rfl
@[simp] theorem fireTimer_key (s : State) : (fireTimer s).key = s.key := rfl
@[simp] theorem fireTimer_sw (s : State) : (fireTimer s).sw = s.sw := rfl
@[simp] theorem fireTimer_gameState (s : State) : (fireTimer s).gameState = s.gameState := rfl
@[simp] theorem fireTimer_speedTier (s : State) : (fireTimer s).speedTier = s.speedTier := rfl
@[simp] theorem fireTimer_playerRow (s : State) : (fireTimer s).playerRow = s.playerRow := rfl
@[simp] theorem fireTimer_collect (s : State) : (fireTimer s).collect = s.collect := rfl
@[simp] theorem fireTimer_hazard (s : State) : (fireTimer s).hazard = s.hazard := rfl
@[simp] theorem fireTimer_currency (s : State) : (fireTimer s).currency = s.currency := rfl
@[simp] theorem fireTimer_selectedGlyph (s : State) : (fireTimer s).selectedGlyph = s.selectedGlyph := rfl
@[simp] theorem fireTimer_prevSw (s : State) : (fireTimer s).prevSw = s.prevSw := rfl
@[simp] theorem fireTimer_faults (s : State) : (fireTimer s).faults = s.faults := rfl
@[simp] theorem fireTimer_keyResult (s : State) : (fireTimer s).keyResult = s.keyResult := rfl
@[simp] theorem fireTimer_colResult (s : State) : (fireTimer s).colResult = s.colResult := rfl
@[simp] theorem fireTimer_modeResult (s : State) : (fireTimer s).modeResult = s.modeResult := rfl
@[simp] theorem fireTimer_adcResult (s : State) : (fireTimer s).adcResult = s.adcResult := rfl
@[simp] theorem fireTimer_poll (s : State) : (fireTimer s).poll = s.poll := rfl
@[simp] theorem fireTimer_tick (s : State) : (fireTimer s).tick = s.tick := rfl
@[simp] theorem fireTimer_booted (s : State) : (fireTimer s).booted = s.booted := rfl
@[simp] theorem fireTimer_script (s : State) : (fireTimer s).script = s.script := rfl
@[simp] theorem fireTimer_turn (s : State) : (fireTimer s).turn = s.turn := rfl
@[simp] theorem fireTimer_draws (s : State) : (fireTimer s).draws = s.draws := rfl

/-! ### writeDisplay -/

@[simp] theorem writeDisplay_pinsConfigured (v : BitVec dvWidth) (s : State) : (writeDisplay v s).pinsConfigured = s.pinsConfigured := rfl
@[simp] theorem writeDisplay_tickRun (v : BitVec dvWidth) (s : State) : (writeDisplay v s).tickRun = s.tickRun := rfl
@[simp] theorem writeDisplay_tickPending (v : BitVec dvWidth) (s : State) : (writeDisplay v s).tickPending = s.tickPending := rfl
@[simp] theorem writeDisplay_paceCount (v : BitVec dvWidth) (s : State) : (writeDisplay v s).paceCount = s.paceCount := rfl
@[simp] theorem writeDisplay_displayValue (v : BitVec dvWidth) (s : State) : (writeDisplay v s).displayValue = v := rfl
@[simp] theorem writeDisplay_digitSlot (v : BitVec dvWidth) (s : State) : (writeDisplay v s).digitSlot = s.digitSlot := rfl
@[simp] theorem writeDisplay_an (v : BitVec dvWidth) (s : State) : (writeDisplay v s).an = s.an := rfl
@[simp] theorem writeDisplay_seg (v : BitVec dvWidth) (s : State) : (writeDisplay v s).seg = s.seg := rfl
@[simp] theorem writeDisplay_glowArmed (v : BitVec dvWidth) (s : State) : (writeDisplay v s).glowArmed = s.glowArmed := rfl
@[simp] theorem writeDisplay_glowCount (v : BitVec dvWidth) (s : State) : (writeDisplay v s).glowCount = s.glowCount := rfl
@[simp] theorem writeDisplay_glowPin (v : BitVec dvWidth) (s : State) : (writeDisplay v s).glowPin = s.glowPin := rfl
@[simp] theorem writeDisplay_alarmArmed (v : BitVec dvWidth) (s : State) : (writeDisplay v s).alarmArmed = s.alarmArmed := rfl
@[simp] theorem writeDisplay_alarmCount (v : BitVec dvWidth) (s : State) : (writeDisplay v s).alarmCount = s.alarmCount := rfl
@[simp] theorem writeDisplay_alarmPin (v : BitVec dvWidth) (s : State) : (writeDisplay v s).alarmPin = s.alarmPin := rfl
@[simp] theorem writeDisplay_row (v : BitVec dvWidth) (s : State) : (writeDisplay v s).row = s.row := rfl
@[simp] theorem writeDisplay_ksPhase (v : BitVec dvWidth) (s : State) : (writeDisplay v s).ksPhase = s.ksPhase := rfl
@[simp] theorem writeDisplay_ksRow (v : BitVec dvWidth) (s : State) : (writeDisplay v s).ksRow = s.ksRow := rfl
@[simp] theorem writeDisplay_ksHit (v : BitVec dvWidth) (s : State) : (writeDisplay v s).ksHit = s.ksHit := rfl
@[simp] theorem writeDisplay_key (v : BitVec dvWidth) (s : State) : (writeDisplay v s).key = s.key := rfl
@[simp] theorem writeDisplay_sw (v : BitVec dvWidth) (s : State) : (writeDisplay v s).sw = s.sw := rfl
@[simp] theorem writeDisplay_gameState (v : BitVec dvWidth) (s : State) : (writeDisplay v s).gameState = s.gameState := rfl
@[simp] theorem writeDisplay_speedTier (v : BitVec dvWidth) (s : State) : (writeDisplay v s).speedTier = s.speedTier := rfl
@[simp] theorem writeDisplay_playerRow (v : BitVec dvWidth) (s : State) : (writeDisplay v s).playerRow = s.playerRow := rfl
@[simp] theorem writeDisplay_collect (v : BitVec dvWidth) (s : State) : (writeDisplay v s).collect = s.collect := rfl
@[simp] theorem writeDisplay_hazard (v : BitVec dvWidth) (s : State) : (writeDisplay v s).hazard = s.hazard := rfl
@[simp] theorem writeDisplay_currency (v : BitVec dvWidth) (s : State) : (writeDisplay v s).currency = s.currency := rfl
@[simp] theorem writeDisplay_selectedGlyph (v : BitVec dvWidth) (s : State) : (writeDisplay v s).selectedGlyph = s.selectedGlyph := rfl
@[simp] theorem writeDisplay_prevSw (v : BitVec dvWidth) (s : State) : (writeDisplay v s).prevSw = s.prevSw := rfl
@[simp] theorem writeDisplay_faults (v : BitVec dvWidth) (s : State) : (writeDisplay v s).faults = s.faults := rfl
@[simp] theorem writeDisplay_keyResult (v : BitVec dvWidth) (s : State) : (writeDisplay v s).keyResult = s.keyResult := rfl
@[simp] theorem writeDisplay_colResult (v : BitVec dvWidth) (s : State) : (writeDisplay v s).colResult = s.colResult := rfl
@[simp] theorem writeDisplay_modeResult (v : BitVec dvWidth) (s : State) : (writeDisplay v s).modeResult = s.modeResult := rfl
@[simp] theorem writeDisplay_adcResult (v : BitVec dvWidth) (s : State) : (writeDisplay v s).adcResult = s.adcResult := rfl
@[simp] theorem writeDisplay_poll (v : BitVec dvWidth) (s : State) : (writeDisplay v s).poll = s.poll := rfl
@[simp] theorem writeDisplay_tick (v : BitVec dvWidth) (s : State) : (writeDisplay v s).tick = s.tick := rfl
@[simp] theorem writeDisplay_booted (v : BitVec dvWidth) (s : State) : (writeDisplay v s).booted = s.booted := rfl
@[simp] theorem writeDisplay_script (v : BitVec dvWidth) (s : State) : (writeDisplay v s).script = s.script := rfl
@[simp] theorem writeDisplay_turn (v : BitVec dvWidth) (s : State) : (writeDisplay v s).turn = s.turn := rfl
@[simp] theorem writeDisplay_draws (v : BitVec dvWidth) (s : State) : (writeDisplay v s).draws = s.draws := rfl

/-! ### setRow -/

@[simp] theorem setRow_pinsConfigured (r : BitVec 2) (b : Bool) (s : State) : (setRow r b s).pinsConfigured = s.pinsConfigured := rfl
@[simp] theorem setRow_tickRun (r : BitVec 2) (b : Bool) (s : State) : (setRow r b s).tickRun = s.tickRun := rfl
@[simp] theorem setRow_tickPending (r : BitVec 2) (b : Bool) (s : State) : (setRow r b s).tickPending = s.tickPending := rfl
@[simp] theorem setRow_paceCount (r : BitVec 2) (b : Bool) (s : State) : (setRow r b s).paceCount = s.paceCount := rfl
@[simp] theorem setRow_displayValue (r : BitVec 2) (b : Bool) (s : State) : (setRow r b s).displayValue = s.displayValue := rfl
@[simp] theorem setRow_digitSlot (r : BitVec 2) (b : Bool) (s : State) : (setRow r b s).digitSlot = s.digitSlot := rfl
@[simp] theorem setRow_an (r : BitVec 2) (b : Bool) (s : State) : (setRow r b s).an = s.an := rfl
@[simp] theorem setRow_seg (r : BitVec 2) (b : Bool) (s : State) : (setRow r b s).seg = s.seg := rfl
@[simp] theorem setRow_glowArmed (r : BitVec 2) (b : Bool) (s : State) : (setRow r b s).glowArmed = s.glowArmed := rfl
@[simp] theorem setRow_glowCount (r : BitVec 2) (b : Bool) (s : State) : (setRow r b s).glowCount = s.glowCount := rfl
@[simp] theorem setRow_glowPin (r : BitVec 2) (b : Bool) (s : State) : (setRow r b s).glowPin = s.glowPin := rfl
@[simp] theorem setRow_alarmArmed (r : BitVec 2) (b : Bool) (s : State) : (setRow r b s).alarmArmed = s.alarmArmed := rfl
@[simp] theorem setRow_alarmCount (r : BitVec 2) (b : Bool) (s : State) : (setRow r b s).alarmCount = s.alarmCount := rfl
@[simp] theorem setRow_alarmPin (r : BitVec 2) (b : Bool) (s : State) : (setRow r b s).alarmPin = s.alarmPin := rfl
@[simp] theorem setRow_row (r : BitVec 2) (b : Bool) (s : State) : (setRow r b s).row = setBitAt s.row r b := rfl
@[simp] theorem setRow_ksPhase (r : BitVec 2) (b : Bool) (s : State) : (setRow r b s).ksPhase = s.ksPhase := rfl
@[simp] theorem setRow_ksRow (r : BitVec 2) (b : Bool) (s : State) : (setRow r b s).ksRow = s.ksRow := rfl
@[simp] theorem setRow_ksHit (r : BitVec 2) (b : Bool) (s : State) : (setRow r b s).ksHit = s.ksHit := rfl
@[simp] theorem setRow_key (r : BitVec 2) (b : Bool) (s : State) : (setRow r b s).key = s.key := rfl
@[simp] theorem setRow_sw (r : BitVec 2) (b : Bool) (s : State) : (setRow r b s).sw = s.sw := rfl
@[simp] theorem setRow_gameState (r : BitVec 2) (b : Bool) (s : State) : (setRow r b s).gameState = s.gameState := rfl
@[simp] theorem setRow_speedTier (r : BitVec 2) (b : Bool) (s : State) : (setRow r b s).speedTier = s.speedTier := rfl
@[simp] theorem setRow_playerRow (r : BitVec 2) (b : Bool) (s : State) : (setRow r b s).playerRow = s.playerRow := rfl
@[simp] theorem setRow_collect (r : BitVec 2) (b : Bool) (s : State) : (setRow r b s).collect = s.collect := rfl
@[simp] theorem setRow_hazard (r : BitVec 2) (b : Bool) (s : State) : (setRow r b s).hazard = s.hazard := rfl
@[simp] theorem setRow_currency (r : BitVec 2) (b : Bool) (s : State) : (setRow r b s).currency = s.currency := rfl
@[simp] theorem setRow_selectedGlyph (r : BitVec 2) (b : Bool) (s : State) : (setRow r b s).selectedGlyph = s.selectedGlyph := rfl
@[simp] theorem setRow_prevSw (r : BitVec 2) (b : Bool) (s : State) : (setRow r b s).prevSw = s.prevSw := rfl
@[simp] theorem setRow_faults (r : BitVec 2) (b : Bool) (s : State) : (setRow r b s).faults = s.faults := rfl
@[simp] theorem setRow_keyResult (r : BitVec 2) (b : Bool) (s : State) : (setRow r b s).keyResult = s.keyResult := rfl
@[simp] theorem setRow_colResult (r : BitVec 2) (b : Bool) (s : State) : (setRow r b s).colResult = s.colResult := rfl
@[simp] theorem setRow_modeResult (r : BitVec 2) (b : Bool) (s : State) : (setRow r b s).modeResult = s.modeResult := rfl
@[simp] theorem setRow_adcResult (r : BitVec 2) (b : Bool) (s : State) : (setRow r b s).adcResult = s.adcResult := rfl
@[simp] theorem setRow_poll (r : BitVec 2) (b : Bool) (s : State) : (setRow r b s).poll = s.poll := rfl
@[simp] theorem setRow_tick (r : BitVec 2) (b : Bool) (s : State) : (setRow r b s).tick = s.tick := rfl
@[simp] theorem setRow_booted (r : BitVec 2) (b : Bool) (s : State) : (setRow r b s).booted = s.booted := rfl
@[simp] theorem setRow_script (r : BitVec 2) (b : Bool) (s : State) : (setRow r b s).script = s.script := rfl
@[simp] theorem setRow_turn (r : BitVec 2) (b : Bool) (s : State) : (setRow r b s).turn = s.turn := rfl
@[simp] theorem setRow_draws (r : BitVec 2) (b : Bool) (s : State) : (setRow r b s).draws = s.draws := rfl

/-! ### sampleColumns -/

@[simp] theorem sampleColumns_pinsConfigured (s : State) : (sampleColumns s).pinsConfigured = s.pinsConfigured := rfl
@[simp] theorem sampleColumns_tickRun (s : State) : (sampleColumns s).tickRun = s.tickRun := rfl
@[simp] theorem sampleColumns_tickPending (s : State) : (sampleColumns s).tickPending = s.tickPending := rfl
@[simp] theorem sampleColumns_paceCount (s : State) : (sampleColumns s).paceCount = s.paceCount := rfl
@[simp] theorem sampleColumns_displayValue (s : State) : (sampleColumns s).displayValue = s.displayValue := rfl
@[simp] theorem sampleColumns_digitSlot (s : State) : (sampleColumns s).digitSlot = s.digitSlot := rfl
@[simp] theorem sampleColumns_an (s : State) : (sampleColumns s).an = s.an := rfl
@[simp] theorem sampleColumns_seg (s : State) : (sampleColumns s).seg = s.seg := rfl
@[simp] theorem sampleColumns_glowArmed (s : State) : (sampleColumns s).glowArmed = s.glowArmed := rfl
@[simp] theorem sampleColumns_glowCount (s : State) : (sampleColumns s).glowCount = s.glowCount := rfl
@[simp] theorem sampleColumns_glowPin (s : State) : (sampleColumns s).glowPin = s.glowPin := rfl
@[simp] theorem sampleColumns_alarmArmed (s : State) : (sampleColumns s).alarmArmed = s.alarmArmed := rfl
@[simp] theorem sampleColumns_alarmCount (s : State) : (sampleColumns s).alarmCount = s.alarmCount := rfl
@[simp] theorem sampleColumns_alarmPin (s : State) : (sampleColumns s).alarmPin = s.alarmPin := rfl
@[simp] theorem sampleColumns_row (s : State) : (sampleColumns s).row = s.row := rfl
@[simp] theorem sampleColumns_ksPhase (s : State) : (sampleColumns s).ksPhase = s.ksPhase := rfl
@[simp] theorem sampleColumns_ksRow (s : State) : (sampleColumns s).ksRow = s.ksRow := rfl
@[simp] theorem sampleColumns_ksHit (s : State) : (sampleColumns s).ksHit = s.ksHit := rfl
@[simp] theorem sampleColumns_key (s : State) : (sampleColumns s).key = s.key := rfl
@[simp] theorem sampleColumns_sw (s : State) : (sampleColumns s).sw = s.sw := rfl
@[simp] theorem sampleColumns_gameState (s : State) : (sampleColumns s).gameState = s.gameState := rfl
@[simp] theorem sampleColumns_speedTier (s : State) : (sampleColumns s).speedTier = s.speedTier := rfl
@[simp] theorem sampleColumns_playerRow (s : State) : (sampleColumns s).playerRow = s.playerRow := rfl
@[simp] theorem sampleColumns_collect (s : State) : (sampleColumns s).collect = s.collect := rfl
@[simp] theorem sampleColumns_hazard (s : State) : (sampleColumns s).hazard = s.hazard := rfl
@[simp] theorem sampleColumns_currency (s : State) : (sampleColumns s).currency = s.currency := rfl
@[simp] theorem sampleColumns_selectedGlyph (s : State) : (sampleColumns s).selectedGlyph = s.selectedGlyph := rfl
@[simp] theorem sampleColumns_prevSw (s : State) : (sampleColumns s).prevSw = s.prevSw := rfl
@[simp] theorem sampleColumns_faults (s : State) : (sampleColumns s).faults = s.faults := rfl
@[simp] theorem sampleColumns_keyResult (s : State) : (sampleColumns s).keyResult = s.keyResult := rfl
@[simp] theorem sampleColumns_colResult (s : State) : (sampleColumns s).colResult = s.columns := rfl
@[simp] theorem sampleColumns_modeResult (s : State) : (sampleColumns s).modeResult = s.modeResult := rfl
@[simp] theorem sampleColumns_adcResult (s : State) : (sampleColumns s).adcResult = s.adcResult := rfl
@[simp] theorem sampleColumns_poll (s : State) : (sampleColumns s).poll = s.poll := rfl
@[simp] theorem sampleColumns_tick (s : State) : (sampleColumns s).tick = s.tick := rfl
@[simp] theorem sampleColumns_booted (s : State) : (sampleColumns s).booted = s.booted := rfl
@[simp] theorem sampleColumns_script (s : State) : (sampleColumns s).script = s.script := rfl
@[simp] theorem sampleColumns_turn (s : State) : (sampleColumns s).turn = s.turn := rfl
@[simp] theorem sampleColumns_draws (s : State) : (sampleColumns s).draws = s.draws := rfl

/-! ### readSwitch -/

@[simp] theorem readSwitch_pinsConfigured (s : State) : (readSwitch s).pinsConfigured = s.pinsConfigured := rfl
@[simp] theorem readSwitch_tickRun (s : State) : (readSwitch s).tickRun = s.tickRun := rfl
@[simp] theorem readSwitch_tickPending (s : State) : (readSwitch s).tickPending = s.tickPending := rfl
@[simp] theorem readSwitch_paceCount (s : State) : (readSwitch s).paceCount = s.paceCount := rfl
@[simp] theorem readSwitch_displayValue (s : State) : (readSwitch s).displayValue = s.displayValue := rfl
@[simp] theorem readSwitch_digitSlot (s : State) : (readSwitch s).digitSlot = s.digitSlot := rfl
@[simp] theorem readSwitch_an (s : State) : (readSwitch s).an = s.an := rfl
@[simp] theorem readSwitch_seg (s : State) : (readSwitch s).seg = s.seg := rfl
@[simp] theorem readSwitch_glowArmed (s : State) : (readSwitch s).glowArmed = s.glowArmed := rfl
@[simp] theorem readSwitch_glowCount (s : State) : (readSwitch s).glowCount = s.glowCount := rfl
@[simp] theorem readSwitch_glowPin (s : State) : (readSwitch s).glowPin = s.glowPin := rfl
@[simp] theorem readSwitch_alarmArmed (s : State) : (readSwitch s).alarmArmed = s.alarmArmed := rfl
@[simp] theorem readSwitch_alarmCount (s : State) : (readSwitch s).alarmCount = s.alarmCount := rfl
@[simp] theorem readSwitch_alarmPin (s : State) : (readSwitch s).alarmPin = s.alarmPin := rfl
@[simp] theorem readSwitch_row (s : State) : (readSwitch s).row = s.row := rfl
@[simp] theorem readSwitch_ksPhase (s : State) : (readSwitch s).ksPhase = s.ksPhase := rfl
@[simp] theorem readSwitch_ksRow (s : State) : (readSwitch s).ksRow = s.ksRow := rfl
@[simp] theorem readSwitch_ksHit (s : State) : (readSwitch s).ksHit = s.ksHit := rfl
@[simp] theorem readSwitch_key (s : State) : (readSwitch s).key = s.key := rfl
@[simp] theorem readSwitch_sw (s : State) : (readSwitch s).sw = s.sw := rfl
@[simp] theorem readSwitch_gameState (s : State) : (readSwitch s).gameState = s.gameState := rfl
@[simp] theorem readSwitch_speedTier (s : State) : (readSwitch s).speedTier = s.speedTier := rfl
@[simp] theorem readSwitch_playerRow (s : State) : (readSwitch s).playerRow = s.playerRow := rfl
@[simp] theorem readSwitch_collect (s : State) : (readSwitch s).collect = s.collect := rfl
@[simp] theorem readSwitch_hazard (s : State) : (readSwitch s).hazard = s.hazard := rfl
@[simp] theorem readSwitch_currency (s : State) : (readSwitch s).currency = s.currency := rfl
@[simp] theorem readSwitch_selectedGlyph (s : State) : (readSwitch s).selectedGlyph = s.selectedGlyph := rfl
@[simp] theorem readSwitch_prevSw (s : State) : (readSwitch s).prevSw = s.prevSw := rfl
@[simp] theorem readSwitch_faults (s : State) : (readSwitch s).faults = s.faults := rfl
@[simp] theorem readSwitch_keyResult (s : State) : (readSwitch s).keyResult = s.keyResult := rfl
@[simp] theorem readSwitch_colResult (s : State) : (readSwitch s).colResult = s.colResult := rfl
@[simp] theorem readSwitch_modeResult (s : State) : (readSwitch s).modeResult = s.sw := rfl
@[simp] theorem readSwitch_adcResult (s : State) : (readSwitch s).adcResult = s.adcResult := rfl
@[simp] theorem readSwitch_poll (s : State) : (readSwitch s).poll = s.poll := rfl
@[simp] theorem readSwitch_tick (s : State) : (readSwitch s).tick = s.tick := rfl
@[simp] theorem readSwitch_booted (s : State) : (readSwitch s).booted = s.booted := rfl
@[simp] theorem readSwitch_script (s : State) : (readSwitch s).script = s.script := rfl
@[simp] theorem readSwitch_turn (s : State) : (readSwitch s).turn = s.turn := rfl
@[simp] theorem readSwitch_draws (s : State) : (readSwitch s).draws = s.draws := rfl

/-! ### setKey -/

@[simp] theorem setKey_pinsConfigured (b : Bool) (r c : BitVec 2) (s : State) : (setKey b r c s).pinsConfigured = s.pinsConfigured := rfl
@[simp] theorem setKey_tickRun (b : Bool) (r c : BitVec 2) (s : State) : (setKey b r c s).tickRun = s.tickRun := rfl
@[simp] theorem setKey_tickPending (b : Bool) (r c : BitVec 2) (s : State) : (setKey b r c s).tickPending = s.tickPending := rfl
@[simp] theorem setKey_paceCount (b : Bool) (r c : BitVec 2) (s : State) : (setKey b r c s).paceCount = s.paceCount := rfl
@[simp] theorem setKey_displayValue (b : Bool) (r c : BitVec 2) (s : State) : (setKey b r c s).displayValue = s.displayValue := rfl
@[simp] theorem setKey_digitSlot (b : Bool) (r c : BitVec 2) (s : State) : (setKey b r c s).digitSlot = s.digitSlot := rfl
@[simp] theorem setKey_an (b : Bool) (r c : BitVec 2) (s : State) : (setKey b r c s).an = s.an := rfl
@[simp] theorem setKey_seg (b : Bool) (r c : BitVec 2) (s : State) : (setKey b r c s).seg = s.seg := rfl
@[simp] theorem setKey_glowArmed (b : Bool) (r c : BitVec 2) (s : State) : (setKey b r c s).glowArmed = s.glowArmed := rfl
@[simp] theorem setKey_glowCount (b : Bool) (r c : BitVec 2) (s : State) : (setKey b r c s).glowCount = s.glowCount := rfl
@[simp] theorem setKey_glowPin (b : Bool) (r c : BitVec 2) (s : State) : (setKey b r c s).glowPin = s.glowPin := rfl
@[simp] theorem setKey_alarmArmed (b : Bool) (r c : BitVec 2) (s : State) : (setKey b r c s).alarmArmed = s.alarmArmed := rfl
@[simp] theorem setKey_alarmCount (b : Bool) (r c : BitVec 2) (s : State) : (setKey b r c s).alarmCount = s.alarmCount := rfl
@[simp] theorem setKey_alarmPin (b : Bool) (r c : BitVec 2) (s : State) : (setKey b r c s).alarmPin = s.alarmPin := rfl
@[simp] theorem setKey_row (b : Bool) (r c : BitVec 2) (s : State) : (setKey b r c s).row = s.row := rfl
@[simp] theorem setKey_ksPhase (b : Bool) (r c : BitVec 2) (s : State) : (setKey b r c s).ksPhase = s.ksPhase := rfl
@[simp] theorem setKey_ksRow (b : Bool) (r c : BitVec 2) (s : State) : (setKey b r c s).ksRow = s.ksRow := rfl
@[simp] theorem setKey_ksHit (b : Bool) (r c : BitVec 2) (s : State) : (setKey b r c s).ksHit = s.ksHit := rfl
@[simp] theorem setKey_key (b : Bool) (r c : BitVec 2) (s : State) : (setKey b r c s).key = setKeyAt s.key r c b := rfl
@[simp] theorem setKey_sw (b : Bool) (r c : BitVec 2) (s : State) : (setKey b r c s).sw = s.sw := rfl
@[simp] theorem setKey_gameState (b : Bool) (r c : BitVec 2) (s : State) : (setKey b r c s).gameState = s.gameState := rfl
@[simp] theorem setKey_speedTier (b : Bool) (r c : BitVec 2) (s : State) : (setKey b r c s).speedTier = s.speedTier := rfl
@[simp] theorem setKey_playerRow (b : Bool) (r c : BitVec 2) (s : State) : (setKey b r c s).playerRow = s.playerRow := rfl
@[simp] theorem setKey_collect (b : Bool) (r c : BitVec 2) (s : State) : (setKey b r c s).collect = s.collect := rfl
@[simp] theorem setKey_hazard (b : Bool) (r c : BitVec 2) (s : State) : (setKey b r c s).hazard = s.hazard := rfl
@[simp] theorem setKey_currency (b : Bool) (r c : BitVec 2) (s : State) : (setKey b r c s).currency = s.currency := rfl
@[simp] theorem setKey_selectedGlyph (b : Bool) (r c : BitVec 2) (s : State) : (setKey b r c s).selectedGlyph = s.selectedGlyph := rfl
@[simp] theorem setKey_prevSw (b : Bool) (r c : BitVec 2) (s : State) : (setKey b r c s).prevSw = s.prevSw := rfl
@[simp] theorem setKey_faults (b : Bool) (r c : BitVec 2) (s : State) : (setKey b r c s).faults = s.faults := rfl
@[simp] theorem setKey_keyResult (b : Bool) (r c : BitVec 2) (s : State) : (setKey b r c s).keyResult = s.keyResult := rfl
@[simp] theorem setKey_colResult (b : Bool) (r c : BitVec 2) (s : State) : (setKey b r c s).colResult = s.colResult := rfl
@[simp] theorem setKey_modeResult (b : Bool) (r c : BitVec 2) (s : State) : (setKey b r c s).modeResult = s.modeResult := rfl
@[simp] theorem setKey_adcResult (b : Bool) (r c : BitVec 2) (s : State) : (setKey b r c s).adcResult = s.adcResult := rfl
@[simp] theorem setKey_poll (b : Bool) (r c : BitVec 2) (s : State) : (setKey b r c s).poll = s.poll := rfl
@[simp] theorem setKey_tick (b : Bool) (r c : BitVec 2) (s : State) : (setKey b r c s).tick = s.tick := rfl
@[simp] theorem setKey_booted (b : Bool) (r c : BitVec 2) (s : State) : (setKey b r c s).booted = s.booted := rfl
@[simp] theorem setKey_script (b : Bool) (r c : BitVec 2) (s : State) : (setKey b r c s).script = s.script := rfl
@[simp] theorem setKey_turn (b : Bool) (r c : BitVec 2) (s : State) : (setKey b r c s).turn = s.turn := rfl
@[simp] theorem setKey_draws (b : Bool) (r c : BitVec 2) (s : State) : (setKey b r c s).draws = s.draws := rfl

/-! ### setSwitch -/

@[simp] theorem setSwitch_pinsConfigured (b : Bool) (s : State) : (setSwitch b s).pinsConfigured = s.pinsConfigured := rfl
@[simp] theorem setSwitch_tickRun (b : Bool) (s : State) : (setSwitch b s).tickRun = s.tickRun := rfl
@[simp] theorem setSwitch_tickPending (b : Bool) (s : State) : (setSwitch b s).tickPending = s.tickPending := rfl
@[simp] theorem setSwitch_paceCount (b : Bool) (s : State) : (setSwitch b s).paceCount = s.paceCount := rfl
@[simp] theorem setSwitch_displayValue (b : Bool) (s : State) : (setSwitch b s).displayValue = s.displayValue := rfl
@[simp] theorem setSwitch_digitSlot (b : Bool) (s : State) : (setSwitch b s).digitSlot = s.digitSlot := rfl
@[simp] theorem setSwitch_an (b : Bool) (s : State) : (setSwitch b s).an = s.an := rfl
@[simp] theorem setSwitch_seg (b : Bool) (s : State) : (setSwitch b s).seg = s.seg := rfl
@[simp] theorem setSwitch_glowArmed (b : Bool) (s : State) : (setSwitch b s).glowArmed = s.glowArmed := rfl
@[simp] theorem setSwitch_glowCount (b : Bool) (s : State) : (setSwitch b s).glowCount = s.glowCount := rfl
@[simp] theorem setSwitch_glowPin (b : Bool) (s : State) : (setSwitch b s).glowPin = s.glowPin := rfl
@[simp] theorem setSwitch_alarmArmed (b : Bool) (s : State) : (setSwitch b s).alarmArmed = s.alarmArmed := rfl
@[simp] theorem setSwitch_alarmCount (b : Bool) (s : State) : (setSwitch b s).alarmCount = s.alarmCount := rfl
@[simp] theorem setSwitch_alarmPin (b : Bool) (s : State) : (setSwitch b s).alarmPin = s.alarmPin := rfl
@[simp] theorem setSwitch_row (b : Bool) (s : State) : (setSwitch b s).row = s.row := rfl
@[simp] theorem setSwitch_ksPhase (b : Bool) (s : State) : (setSwitch b s).ksPhase = s.ksPhase := rfl
@[simp] theorem setSwitch_ksRow (b : Bool) (s : State) : (setSwitch b s).ksRow = s.ksRow := rfl
@[simp] theorem setSwitch_ksHit (b : Bool) (s : State) : (setSwitch b s).ksHit = s.ksHit := rfl
@[simp] theorem setSwitch_key (b : Bool) (s : State) : (setSwitch b s).key = s.key := rfl
@[simp] theorem setSwitch_sw (b : Bool) (s : State) : (setSwitch b s).sw = b := rfl
@[simp] theorem setSwitch_gameState (b : Bool) (s : State) : (setSwitch b s).gameState = s.gameState := rfl
@[simp] theorem setSwitch_speedTier (b : Bool) (s : State) : (setSwitch b s).speedTier = s.speedTier := rfl
@[simp] theorem setSwitch_playerRow (b : Bool) (s : State) : (setSwitch b s).playerRow = s.playerRow := rfl
@[simp] theorem setSwitch_collect (b : Bool) (s : State) : (setSwitch b s).collect = s.collect := rfl
@[simp] theorem setSwitch_hazard (b : Bool) (s : State) : (setSwitch b s).hazard = s.hazard := rfl
@[simp] theorem setSwitch_currency (b : Bool) (s : State) : (setSwitch b s).currency = s.currency := rfl
@[simp] theorem setSwitch_selectedGlyph (b : Bool) (s : State) : (setSwitch b s).selectedGlyph = s.selectedGlyph := rfl
@[simp] theorem setSwitch_prevSw (b : Bool) (s : State) : (setSwitch b s).prevSw = s.prevSw := rfl
@[simp] theorem setSwitch_faults (b : Bool) (s : State) : (setSwitch b s).faults = s.faults := rfl
@[simp] theorem setSwitch_keyResult (b : Bool) (s : State) : (setSwitch b s).keyResult = s.keyResult := rfl
@[simp] theorem setSwitch_colResult (b : Bool) (s : State) : (setSwitch b s).colResult = s.colResult := rfl
@[simp] theorem setSwitch_modeResult (b : Bool) (s : State) : (setSwitch b s).modeResult = s.modeResult := rfl
@[simp] theorem setSwitch_adcResult (b : Bool) (s : State) : (setSwitch b s).adcResult = s.adcResult := rfl
@[simp] theorem setSwitch_poll (b : Bool) (s : State) : (setSwitch b s).poll = s.poll := rfl
@[simp] theorem setSwitch_tick (b : Bool) (s : State) : (setSwitch b s).tick = s.tick := rfl
@[simp] theorem setSwitch_booted (b : Bool) (s : State) : (setSwitch b s).booted = s.booted := rfl
@[simp] theorem setSwitch_script (b : Bool) (s : State) : (setSwitch b s).script = s.script := rfl
@[simp] theorem setSwitch_turn (b : Bool) (s : State) : (setSwitch b s).turn = s.turn := rfl
@[simp] theorem setSwitch_draws (b : Bool) (s : State) : (setSwitch b s).draws = s.draws := rfl

/-! ### givePoll -/

@[simp] theorem givePoll_pinsConfigured (t : Task) (s : State) : (givePoll t s).pinsConfigured = s.pinsConfigured := rfl
@[simp] theorem givePoll_tickRun (t : Task) (s : State) : (givePoll t s).tickRun = s.tickRun := rfl
@[simp] theorem givePoll_tickPending (t : Task) (s : State) : (givePoll t s).tickPending = s.tickPending := rfl
@[simp] theorem givePoll_paceCount (t : Task) (s : State) : (givePoll t s).paceCount = s.paceCount := rfl
@[simp] theorem givePoll_displayValue (t : Task) (s : State) : (givePoll t s).displayValue = s.displayValue := rfl
@[simp] theorem givePoll_digitSlot (t : Task) (s : State) : (givePoll t s).digitSlot = s.digitSlot := rfl
@[simp] theorem givePoll_an (t : Task) (s : State) : (givePoll t s).an = s.an := rfl
@[simp] theorem givePoll_seg (t : Task) (s : State) : (givePoll t s).seg = s.seg := rfl
@[simp] theorem givePoll_glowArmed (t : Task) (s : State) : (givePoll t s).glowArmed = s.glowArmed := rfl
@[simp] theorem givePoll_glowCount (t : Task) (s : State) : (givePoll t s).glowCount = s.glowCount := rfl
@[simp] theorem givePoll_glowPin (t : Task) (s : State) : (givePoll t s).glowPin = s.glowPin := rfl
@[simp] theorem givePoll_alarmArmed (t : Task) (s : State) : (givePoll t s).alarmArmed = s.alarmArmed := rfl
@[simp] theorem givePoll_alarmCount (t : Task) (s : State) : (givePoll t s).alarmCount = s.alarmCount := rfl
@[simp] theorem givePoll_alarmPin (t : Task) (s : State) : (givePoll t s).alarmPin = s.alarmPin := rfl
@[simp] theorem givePoll_row (t : Task) (s : State) : (givePoll t s).row = s.row := rfl
@[simp] theorem givePoll_ksPhase (t : Task) (s : State) : (givePoll t s).ksPhase = s.ksPhase := rfl
@[simp] theorem givePoll_ksRow (t : Task) (s : State) : (givePoll t s).ksRow = s.ksRow := rfl
@[simp] theorem givePoll_ksHit (t : Task) (s : State) : (givePoll t s).ksHit = s.ksHit := rfl
@[simp] theorem givePoll_key (t : Task) (s : State) : (givePoll t s).key = s.key := rfl
@[simp] theorem givePoll_sw (t : Task) (s : State) : (givePoll t s).sw = s.sw := rfl
@[simp] theorem givePoll_gameState (t : Task) (s : State) : (givePoll t s).gameState = s.gameState := rfl
@[simp] theorem givePoll_speedTier (t : Task) (s : State) : (givePoll t s).speedTier = s.speedTier := rfl
@[simp] theorem givePoll_playerRow (t : Task) (s : State) : (givePoll t s).playerRow = s.playerRow := rfl
@[simp] theorem givePoll_collect (t : Task) (s : State) : (givePoll t s).collect = s.collect := rfl
@[simp] theorem givePoll_hazard (t : Task) (s : State) : (givePoll t s).hazard = s.hazard := rfl
@[simp] theorem givePoll_currency (t : Task) (s : State) : (givePoll t s).currency = s.currency := rfl
@[simp] theorem givePoll_selectedGlyph (t : Task) (s : State) : (givePoll t s).selectedGlyph = s.selectedGlyph := rfl
@[simp] theorem givePoll_prevSw (t : Task) (s : State) : (givePoll t s).prevSw = s.prevSw := rfl
@[simp] theorem givePoll_faults (t : Task) (s : State) : (givePoll t s).faults = s.faults := rfl
@[simp] theorem givePoll_keyResult (t : Task) (s : State) : (givePoll t s).keyResult = s.keyResult := rfl
@[simp] theorem givePoll_colResult (t : Task) (s : State) : (givePoll t s).colResult = s.colResult := rfl
@[simp] theorem givePoll_modeResult (t : Task) (s : State) : (givePoll t s).modeResult = s.modeResult := rfl
@[simp] theorem givePoll_adcResult (t : Task) (s : State) : (givePoll t s).adcResult = s.adcResult := rfl
@[simp] theorem givePoll_poll (t : Task) (s : State) : (givePoll t s).poll = s.poll.push t := rfl
@[simp] theorem givePoll_tick (t : Task) (s : State) : (givePoll t s).tick = s.tick := rfl
@[simp] theorem givePoll_booted (t : Task) (s : State) : (givePoll t s).booted = s.booted := rfl
@[simp] theorem givePoll_script (t : Task) (s : State) : (givePoll t s).script = s.script := rfl
@[simp] theorem givePoll_turn (t : Task) (s : State) : (givePoll t s).turn = s.turn := rfl
@[simp] theorem givePoll_draws (t : Task) (s : State) : (givePoll t s).draws = s.draws := rfl

end Sys2Proof.Machine
end

