-- ==== Sys2Proof/Laws/Ops.lean ====
section
/-! SUPPORT. The laws of the shared operations over faults, bits, keys and digits. -/

namespace Sys2Proof.Machine

/-! ### The fault set -/

theorem mem_insertValue (n m : Nat) (l : List Nat) : m ∈ insertValue n l ↔ m = n ∨ m ∈ l := by
  induction l with
  | nil => simp [insertValue]
  | cons k ks ih =>
    by_cases h1 : n < k
    · simp [insertValue, h1]
    · by_cases h2 : n = k
      · subst h2; simp [insertValue]
      · simp [insertValue, h1, h2, ih]; tauto

theorem insertValue_pairwise (n : Nat) (l : List Nat) (h : l.Pairwise (· < ·)) :
    (insertValue n l).Pairwise (· < ·) := by
  induction l with
  | nil => simp [insertValue]
  | cons k ks ih =>
    rw [List.pairwise_cons] at h
    by_cases h1 : n < k
    · simp only [insertValue, h1, if_true, List.pairwise_cons]
      refine ⟨fun a ha => ?_, h.1, h.2⟩
      rcases List.mem_cons.mp ha with rfl | ha
      · exact h1
      · exact lt_trans h1 (h.1 a ha)
    · by_cases h2 : n = k
      · subst h2; simpa [insertValue] using h
      · simp only [insertValue, h1, h2, if_false, List.pairwise_cons]
        refine ⟨fun a ha => ?_, ih h.2⟩
        rcases (mem_insertValue n a ks).mp ha with rfl | ha
        · omega
        · exact h.1 a ha

/-- Recording a fault keeps the canonical form. -/
theorem add_wf (f : FaultSet) (x : FaultName) (h : f.wf) : (f.add x).wf := by
  cases x with
  | displayRange v => exact ⟨insertValue_pairwise v _ h.1, h.2⟩
  | segIndex d => exact ⟨h.1, insertValue_pairwise d _ h.2⟩
  | bootOrder => exact h

/-- The set after `raise` holds the new fault and every one it held. -/
theorem holds_add (f : FaultSet) (x y : FaultName) :
    (f.add x).holds y = (decide (y = x) || f.holds y) := by
  cases x <;> cases y <;>
    simp [FaultSet.add, FaultSet.holds, mem_insertValue]

/-- A set a fault was added to is not empty. -/
theorem add_ne_empty (f : FaultSet) (x : FaultName) : f.add x ≠ FaultSet.empty := by
  intro h
  have := holds_add f x x
  rw [h] at this
  cases x <;> simp [FaultSet.holds, FaultSet.empty] at this

/-! ### Bits and lines -/

theorem bitAt_setBitAt (v : BitVec 4) (i j : BitVec 2) (b : Bool) :
    bitAt (setBitAt v i b) j = if j = i then b else bitAt v j := by
  revert v i j b; decide

theorem onehot_ne_zero (i : BitVec 2) : onehot i ≠ 0 := by revert i; decide

theorem bitAt_onehot (i j : BitVec 2) : bitAt (onehot i) j = decide (j = i) := by
  revert i j; decide

/-- Reading a key after moving one: the key moved has the new level, every other is as before. -/
theorem keyAt_setKeyAt (k : KeyMatrix) (r c r' c' : BitVec 2) (b : Bool) :
    keyAt (setKeyAt k r c b) r' c' = if r' = r ∧ c' = c then b else keyAt k r' c' := by
  have hr : r = 0 ∨ r = 1 ∨ r = 2 ∨ r = 3 := by revert r; decide
  have hr' : r' = 0 ∨ r' = 1 ∨ r' = 2 ∨ r' = 3 := by revert r'; decide
  rcases hr with rfl | rfl | rfl | rfl <;> rcases hr' with rfl | rfl | rfl | rfl <;>
    simp [keyAt, setKeyAt, bitAt_setBitAt]

/-- With no row selected no column is asserted (43_keypad_scanner R160). -/
theorem colSnapshot_no_row (k : KeyMatrix) : colSnapshot 0 k = 0 := by
  simp [colSnapshot, rowKeys, bitAt]

/-! ### Digits -/

theorem place_lt_ten (v p : Nat) (h : v ≤ 9999) : place v p < 10 := by
  unfold place; split <;> omega

theorem segRead_some (d : Nat) (h : d < 10) : ∃ p, segRead d = some p :=
  ⟨Config.segTable[d]'(by simpa [Config.segTable] using h), by simp [segRead]⟩

theorem segRead_none (d : Nat) (h : 10 ≤ d) : segRead d = none := by
  simpa [segRead, Config.segTable] using h

/-! ### DisplayValue from Currency (44_game_loop R193) -/

theorem overflowWord_toNat (n : Nat) :
    (overflowWord n).toNat = Config.dvMax + 1 + n % (2 ^ dvWidth - (Config.dvMax + 1)) := by
  have := Nat.mod_lt n (by decide : 0 < 2 ^ dvWidth - (Config.dvMax + 1))
  rw [overflowWord, BitVec.toNat_ofNat, Nat.mod_eq_of_lt]
  simp only [dvWidth, Config.dvMax] at *
  omega

/-- The word stored of a Currency that does not fit is out of range. -/
theorem overflowWord_outOfRange (n : Nat) : Config.dvMax < (overflowWord n).toNat := by
  rw [overflowWord_toNat]; omega

/-- What `DV_WRITE Currency` writes: Currency where it fits the word, out of range where Currency is. -/
theorem writeDisplayCurrency_spec (s : State) :
    ∃ (w : BitVec dvWidth) (n : Nat), writeDisplayCurrency s = { s with displayValue := w, draws := n } ∧
      (s.currency < 2 ^ dvWidth → w.toNat = s.currency ∧ n = s.draws) ∧
      (Config.dvMax < s.currency → Config.dvMax < w.toNat) := by
  unfold writeDisplayCurrency
  split
  case isTrue h =>
    have hw : (BitVec.ofNat dvWidth s.currency).toNat = s.currency := by
      rw [BitVec.toNat_ofNat, Nat.mod_eq_of_lt h]
    exact ⟨_, _, rfl, fun _ => ⟨hw, rfl⟩, fun hc => Nat.lt_of_lt_of_eq hc hw.symm⟩
  case isFalse h => exact ⟨_, _, rfl, fun hc => absurd hc h, fun _ => overflowWord_outOfRange _⟩

/-! ### Operands -/

theorem entityOfOperand_legal (e : BitVec 2) :
    (entityOfOperand e).isSome = (Instr.entAdvance e).wellFormed := by
  revert e; decide

theorem glyphOfOperand_legal (i : BitVec 2) :
    (glyphOfOperand i).isSome = (Instr.storePurchase i).wellFormed := by
  revert i; decide

/-! ### The fixed parameters of 00_scope R6 are the sizes of the types that carry them -/

theorem slot_range (n : Nat) : n < Config.nSlots ↔ ∃ s : BitVec 2, s.toNat = n :=
  ⟨fun h => ⟨⟨n, h⟩, rfl⟩, fun ⟨s, h⟩ => h ▸ s.isLt⟩

theorem key_range (r c : Nat) :
    r < Config.nRows ∧ c < Config.nCols ↔ ∃ row col : BitVec 2, row.toNat = r ∧ col.toNat = c :=
  ⟨fun h => ⟨⟨r, h.1⟩, ⟨c, h.2⟩, rfl, rfl⟩, fun ⟨i, j, h, k⟩ => ⟨h ▸ i.isLt, k ▸ j.isLt⟩⟩

theorem cell_range (n : Nat) : n < Config.lcdCols ↔ ∃ p : Pos, p.col.toNat = n :=
  ⟨fun h => ⟨⟨.top, n, h⟩, rfl⟩, fun ⟨p, h⟩ => h ▸ p.col.isLt⟩

theorem lane_range : ∃ ls : List Lane, ls.Nodup ∧ ls.length = Config.lcdRows ∧ ∀ l : Lane, l ∈ ls :=
  ⟨[.top, .bottom], by decide, rfl, fun l => by cases l <;> decide⟩

theorem glyph_range (i : BitVec 2) : (glyphOfOperand i).isSome = true ↔ i.toNat < Config.nGlyphs := by
  revert i; decide

end Sys2Proof.Machine
end

