-- ==== Sys2Proof/Laws/Agenda.lean ====
section
/-! SUPPORT. What a micro-step, a drained agenda and a step can do, said once. -/

namespace Sys2Proof.Machine

/-! ### One micro-step -/

/-- A micro-step of the polling context: it is a step of its first task, and the agenda is what the task's
control says. -/
theorem pollStep_cases {s s' : State} (h : pollStep s = some s') :
    ∃ t rest a, s.poll.todo = t :: rest ∧
      (taskStep t s.poll.stage s).2.agenda t rest s.poll.stage = some a ∧
      s' = { (taskStep t s.poll.stage s).1 with poll := a } := by
  unfold pollStep at h
  split at h
  · cases h
  · rename_i t rest heq
    split at h
    · rename_i a ha
      exact ⟨t, rest, a, heq, ha, (Option.some.inj h).symm⟩
    · cases h

/-- A micro-step of the interrupt context, likewise. -/
theorem tickStep_cases {s s' : State} (h : tickStep s = some s') :
    ∃ t rest a, s.tick.todo = t :: rest ∧
      (tickTaskStep t s.tick.stage s).2.agenda t rest s.tick.stage = some a ∧
      s' = { (tickTaskStep t s.tick.stage s).1 with tick := a } := by
  unfold tickStep at h
  split at h
  · cases h
  · rename_i t rest heq
    split at h
    · rename_i a ha
      exact ⟨t, rest, a, heq, ha, (Option.some.inj h).symm⟩
    · cases h

theorem pollStep_idle {s : State} (h : s.poll.todo = []) : pollStep s = none := by
  simp [pollStep, h]

theorem tickStep_idle {s : State} (h : s.tick.todo = []) : tickStep s = none := by
  simp [tickStep, h]

/-- The effect of a polling task never touches the interrupt context's place, nor the script. -/
theorem taskStep_tick (t : Task) (k : Nat) (s : State) : (taskStep t k s).1.tick = s.tick := by
  cases t <;> simp only [taskStep, tickStartStep, dvWriteStep, dvCurrencyStep, writeDisplayCurrency,
    glowTriggerStep, alarmTriggerStep, keyScanStep, scanDriveStep, scanSettleStep, scanSampleStep,
    scanRestoreStep, scanQuietStep, scanReturnStep, rowDriveStep, colSampleStep, rowRestoreStep,
    releaseWaitStep, selectReleaseRows, delayStep, modeReadStep, gameBootStep, enterLoopStep,
    menuIterStep, menuRouteStep, modeselIterStep, modeselRouteStep, playEnterStep, playStepStep,
    stepEndStep, swEdgeStep, entAdvanceStep, collectCheckStep, hazardCheckStep, lossEndStep,
    storeIterStep, storeRouteStep, storePurchaseStep, recordGlyphStep, gameExitStep, pinConfigStep,
    callStep, adcReadStep] <;> (repeat' split) <;> rfl

/-- The effect of a task of the interrupt context never touches the polling context's place. -/
theorem tickTaskStep_poll (t : TickTask) (k : Nat) (s : State) :
    (tickTaskStep t k s).1.poll = s.poll := by
  cases t <;> simp only [tickTaskStep, paceStep, effectStep, glowStep, alarmStep, muxStep, muxPattern,
    ackStep] <;> (repeat' split) <;> rfl

theorem pollStep_tick {s s' : State} (h : pollStep s = some s') : s'.tick = s.tick := by
  obtain ⟨t, rest, a, -, -, rfl⟩ := pollStep_cases h
  exact taskStep_tick t _ s

theorem tickStep_poll {s s' : State} (h : tickStep s = some s') : s'.poll = s.poll := by
  obtain ⟨t, rest, a, -, -, rfl⟩ := tickStep_cases h
  exact tickTaskStep_poll t _ s

/-! ### Draining an agenda -/

@[simp] theorem drainPoll_zero (s : State) : drainPoll 0 s = s := rfl

@[simp] theorem drainTick_zero (s : State) : drainTick 0 s = s := rfl

theorem drainPoll_some {s s' : State} (n : Nat) (h : pollStep s = some s') :
    drainPoll (n + 1) s = drainPoll n s' := by simp [drainPoll, h]

theorem drainPoll_none {s : State} (n : Nat) (h : pollStep s = none) : drainPoll n s = s := by
  cases n <;> simp [drainPoll, h]

theorem drainTick_some {s s' : State} (n : Nat) (h : tickStep s = some s') :
    drainTick (n + 1) s = drainTick n s' := by simp [drainTick, h]

theorem drainTick_none {s : State} (n : Nat) (h : tickStep s = none) : drainTick n s = s := by
  cases n <;> simp [drainTick, h]

/-- Between two handlers there is nothing to finish. -/
theorem finishTick_none {s : State} (h : s.tick.todo = []) : finishTick s = s :=
  drainTick_none _ (tickStep_idle h)

theorem finishPoll_none {s : State} (h : s.poll.todo = []) : finishPoll s = s :=
  drainPoll_none _ (pollStep_idle h)

/-- An operation performed whole when neither context is in the middle of one: its task is worked off. -/
theorem performPoll_ready {t : Task} {s : State} (ht : s.tick = Agenda.idle) (hp : s.poll = Agenda.idle) :
    performPoll t s = drainPoll taskFuel { s with poll := ⟨[t], 0⟩ } := by
  simp [performPoll, finishPoll, finishTick_none (s := s) (by rw [ht]; rfl), hp, Agenda.push,
    Agenda.idle, givePoll]

/-- A sequence of the interrupt context performed whole when no handler is in progress. -/
theorem performTick_ready {ts : List TickTask} {s : State} (ht : s.tick = Agenda.idle) :
    performTick ts s = finishTick { s with tick := ⟨ts, 0⟩ } := by
  simp [performTick, finishTick_none (s := s) (by rw [ht]; rfl)]

/-- TICK_HANDLER performed whole when no handler is in progress. -/
theorem performHandler_ready {s : State} (ht : s.tick = Agenda.idle) :
    performHandler s = if s.tickPending then finishTick (enterHandler s) else s := by
  simp [performHandler, finishTick_none (s := s) (by rw [ht]; rfl)]

/-! ### A handler always ends -/

/-- How many micro-steps a task of the interrupt context can still take. -/
def tickWeight : TickTask → Nat → Nat
  | .pace, _ => 5
  | .effect, _ => 4
  | .glow, _ => 1
  | .alarm, k => 2 - min k 1
  | .mux, k => 4 - min k 3
  | .ack, _ => 1

/-- The weight of a list of tasks not yet begun. -/
def tickTotal : List TickTask → Nat
  | [] => 0
  | t :: ts => tickWeight t 0 + tickTotal ts

/-- The weight of the interrupt context's agenda. -/
def agendaWeight (a : Agenda TickTask) : Nat :=
  match a.todo with
  | [] => 0
  | t :: ts => tickWeight t a.stage + tickTotal ts

theorem tickTotal_le (ts : List TickTask) : tickTotal ts ≤ 5 * ts.length := by
  induction ts with
  | nil => simp [tickTotal]
  | cons t ts ih =>
    have : tickWeight t 0 ≤ 5 := by cases t <;> decide
    simp only [tickTotal, List.length_cons]; omega

theorem agendaWeight_le (a : Agenda TickTask) : agendaWeight a ≤ 5 * a.todo.length := by
  unfold agendaWeight
  split
  · simp
  · rename_i t ts h
    have h1 : tickWeight t a.stage ≤ 5 := by cases t <;> simp [tickWeight] <;> omega
    have h2 := tickTotal_le ts
    rw [h, List.length_cons]; omega

theorem agendaWeight_begun (ts : List TickTask) : agendaWeight ⟨ts, 0⟩ = tickTotal ts := by
  cases ts <;> rfl

theorem agendaWeight_cons (t : TickTask) (ts : List TickTask) (k : Nat) :
    agendaWeight ⟨t :: ts, k⟩ = tickWeight t k + tickTotal ts := rfl

/-- What a task of the interrupt context can leave: never a hold, and always less to do. -/
theorem tickTask_agenda (t : TickTask) (rest : List TickTask) (k : Nat) (s : State) :
    ∃ a, (tickTaskStep t k s).2.agenda t rest k = some a ∧
      agendaWeight a < tickWeight t k + tickTotal rest := by
  have begun := agendaWeight_begun
  have cons := agendaWeight_cons
  cases t with
  | pace => simp only [tickTaskStep, paceStep]; split <;> exact ⟨_, rfl, by simp [begun, tickTotal, tickWeight]⟩
  | effect => exact ⟨_, rfl, by simp [begun, tickTotal, tickWeight]; omega⟩
  | glow =>
    simp only [tickTaskStep, glowStep]
    split <;> (try split) <;> exact ⟨_, rfl, by simp [begun, tickWeight]⟩
  | alarm =>
    simp only [tickTaskStep, alarmStep]
    split <;> split <;> exact ⟨_, rfl, by simp [begun, cons, tickWeight]⟩
  | mux =>
    simp only [tickTaskStep, muxStep]
    split
    · exact ⟨_, rfl, by simp [cons, tickWeight]⟩
    · unfold muxPattern
      split
      · exact ⟨_, rfl, by simp [Agenda.idle, begun, tickTotal, tickWeight]⟩
      · split
        · exact ⟨_, rfl, by simp [cons, tickWeight]⟩
        · exact ⟨_, rfl, by simp [Agenda.idle, begun, tickTotal, tickWeight]⟩
    · exact ⟨_, rfl, by simp [cons, tickWeight]⟩
    · exact ⟨_, rfl, by simp [begun, tickWeight]⟩
  | ack => exact ⟨_, rfl, by simp [begun, tickWeight]⟩

/-- While a handler is in progress the interrupt context has a micro-step, and has less to do after it. -/
theorem tickStep_progress {s : State} {t : TickTask} {ts : List TickTask} (h : s.tick.todo = t :: ts) :
    ∃ s', tickStep s = some s' ∧ agendaWeight s'.tick < agendaWeight s.tick := by
  obtain ⟨a, ha, hw⟩ := tickTask_agenda t ts s.tick.stage s
  refine ⟨{ (tickTaskStep t s.tick.stage s).1 with tick := a }, by simp [tickStep, h, ha], ?_⟩
  have : agendaWeight s.tick = tickWeight t s.tick.stage + tickTotal ts := by
    simp [agendaWeight, h]
  simpa [this] using hw

theorem drainTick_todo (n : Nat) (s : State) (h : agendaWeight s.tick ≤ n) :
    (drainTick n s).tick.todo = [] := by
  induction n generalizing s with
  | zero =>
    cases hl : s.tick.todo with
    | nil => simpa using hl
    | cons t ts => obtain ⟨s', -, hw⟩ := tickStep_progress hl; omega
  | succ n ih =>
    cases hl : s.tick.todo with
    | nil => rw [drainTick_none _ (tickStep_idle hl)]; exact hl
    | cons t ts =>
      obtain ⟨s', hs, hw⟩ := tickStep_progress hl
      rw [drainTick_some n hs]
      exact ih s' (by omega)

/-- A handler in progress ends: nothing of it is left (20_memory R68 a). -/
theorem finishTick_todo (s : State) : (finishTick s).tick.todo = [] :=
  drainTick_todo _ _ (le_trans (agendaWeight_le _) (Nat.mul_le_mul_right _ (by decide)))

/-! ### What a step can do -/

/-- What a property must withstand to be kept by every step: the moves of each agent, an operation begun, a
power-on, and the run's own bookkeeping. -/
structure Kept (P : State → Prop) : Prop where
  sched : ∀ (s : State) (sc : List Slot) (n : Nat), P s → P { s with script := sc, turn := n }
  give : ∀ (s : State) (t : Task), P s → P (givePoll t s)
  loop : ∀ s : State, s.poll.todo = [] → P s → P { s with poll := ⟨gameLoopNext s, 0⟩ }
  poll : ∀ s s' : State, s.tick.todo = [] → pollStep s = some s' → P s → P s'
  begin : ∀ (s : State) (ts : List TickTask), s.tick.todo = [] → P s → P { s with tick := ⟨ts, 0⟩ }
  tick : ∀ s s' : State, tickStep s = some s' → P s → P s'
  fire : ∀ s : State, P s → P (fireTimer s)
  key : ∀ (s : State) (b : Bool) (r c : BitVec 2), P s → P (setKey b r c s)
  switch : ∀ (s : State) (b : Bool), P s → P (setSwitch b s)
  reset : ∀ s : State, P s → P (resetFrom s)

section kept

variable {P : State → Prop} (k : Kept P)

include k

theorem Kept.drainTick (n : Nat) (s : State) (h : P s) : P (drainTick n s) := by
  induction n generalizing s with
  | zero => exact h
  | succ n ih =>
    cases hs : tickStep s with
    | some s' => rw [drainTick_some n hs]; exact ih s' (k.tick s s' hs h)
    | none => rw [drainTick_none _ hs]; exact h

theorem Kept.drainPoll (n : Nat) (s : State) (ht : s.tick.todo = []) (h : P s) : P (drainPoll n s) := by
  induction n generalizing s with
  | zero => exact h
  | succ n ih =>
    cases hs : pollStep s with
    | some s' =>
      rw [drainPoll_some n hs]
      exact ih s' (by rw [pollStep_tick hs]; exact ht) (k.poll s s' ht hs h)
    | none => rw [drainPoll_none _ hs]; exact h

theorem Kept.finishTick (s : State) (h : P s) : P (finishTick s) := k.drainTick _ s h

theorem Kept.performPoll (t : Task) (s : State) (h : P s) : P (performPoll t s) :=
  k.drainPoll _ _ (finishTick_todo s) (k.give _ t (k.finishTick s h))

theorem Kept.performTick (ts : List TickTask) (s : State) (h : P s) : P (performTick ts s) :=
  k.finishTick _ (k.begin _ ts (finishTick_todo s) (k.finishTick s h))

theorem Kept.performHandler (s : State) (h : P s) : P (performHandler s) := by
  unfold Machine.performHandler
  split
  · exact k.finishTick _ (k.begin _ _ (finishTick_todo s) (k.finishTick s h))
  · exact k.finishTick s h

theorem Kept.interruptTurn (s : State) (h : P s) : P (interruptTurn s) := by
  unfold Machine.interruptTurn
  split
  · rename_i ht
    split
    · exact k.begin s _ ht h
    · exact h
  · cases hs : tickStep s with
    | some s' => exact k.tick s s' hs h
    | none => exact h

theorem Kept.pollingTurn (s : State) (h : P s) : P (pollingTurn s) := by
  unfold Machine.pollingTurn
  split
  · exact h
  · rename_i hp; exact k.loop s hp h
  · rename_i ht _
    cases hs : pollStep s with
    | some s' => exact k.poll s s' ht hs h
    | none => exact h

theorem Kept.takeTurn (m : Mover) (s : State) (h : P s) : P (takeTurn m s) := by
  cases m with
  | timer => exact k.fire s h
  | interrupt => exact k.interruptTurn s h
  | polling => exact k.pollingTurn s h
  | key b r c => exact k.key s b r c h
  | switch b => exact k.switch s b h

theorem Kept.exec (i : Instr) (s s' : State) (hs : exec i s = .next s') (h : P s) : P s' := by
  cases i with
  | reset => cases hs; exact k.reset s h
  | tmrFire => cases hs; exact k.fire s h
  | envKey b r c => cases hs; exact k.key s b r c h
  | envSw b => cases hs; exact k.switch s b h
  | tickHandler => cases hs; exact k.performHandler s h
  | paceStep | effectTick | glowStep | alarmStep | muxStep | irqAck =>
    cases hs; exact k.performTick _ s h
  | entAdvance e =>
    simp only [Machine.exec, execEntAdvance] at hs
    split at hs
    · cases hs; exact k.performPoll _ s h
    · cases hs
  | storePurchase i =>
    simp only [Machine.exec, execStorePurchase] at hs
    split at hs
    · cases hs; exact k.performPoll _ s h
    · cases hs
  | _ => cases hs; exact k.performPoll _ s h

theorem Kept.performSlot (e : Slot) (s s' : State) (hs : performSlot e s = .next s') (h : P s) :
    P s' := by
  cases e with
  | word w =>
    simp only [Machine.performSlot, performWord] at hs
    split at hs
    · exact k.exec _ s s' hs h
    · cases hs
  | issue w =>
    simp only [Machine.performSlot, issueWord] at hs
    split at hs
    · simp only [issueInstr] at hs
      split at hs
      · cases hs; exact k.give s _ h
      · exact k.exec _ s s' hs h
    · cases hs
  | turn m => cases hs; exact k.takeTurn m s h

/-- A property that withstands every agent's moves is kept by every step. -/
theorem Kept.step (s s' : State) (hs : step s = .next s') (h : P s) : P s' := by
  unfold Machine.step at hs
  split at hs
  · exact k.performSlot _ _ s' hs (k.sched s _ s.turn h)
  · cases hs; exact k.takeTurn _ _ (k.sched s s.script _ h)

end kept

end Sys2Proof.Machine
end

