-- ==== Sys2Proof/Laws/Handler.lean ====
section
/-! SUPPORT. The parts of the tick handler as single changes of the state, and that performing them whole makes
exactly these changes. -/

namespace Sys2Proof.Machine

/-! ### Finishing a handler, one micro-step at a time -/

theorem drainTick_enough {n m : Nat} {s : State} (hn : agendaWeight s.tick ≤ n)
    (hm : agendaWeight s.tick ≤ m) : drainTick n s = drainTick m s := by
  induction n generalizing m s with
  | zero =>
    cases hl : s.tick.todo with
    | nil => rw [drainTick_none _ (tickStep_idle hl), drainTick_none _ (tickStep_idle hl)]
    | cons t ts => obtain ⟨s', -, hw⟩ := tickStep_progress hl; omega
  | succ n ih =>
    cases hl : s.tick.todo with
    | nil => rw [drainTick_none _ (tickStep_idle hl), drainTick_none _ (tickStep_idle hl)]
    | cons t ts =>
      obtain ⟨s', hs, hw⟩ := tickStep_progress hl
      cases m with
      | zero => omega
      | succ m => rw [drainTick_some n hs, drainTick_some m hs]; exact ih (by omega) (by omega)

theorem finishTick_eq {n : Nat} {s : State} (h : agendaWeight s.tick ≤ n) :
    finishTick s = drainTick n s :=
  drainTick_enough (le_trans (agendaWeight_le _) (Nat.mul_le_mul_right _ (by decide))) h

/-- Finishing a handler in progress is one micro-step of it, then finishing what is left. -/
theorem finishTick_step {s s' : State} (h : tickStep s = some s') : finishTick s = finishTick s' := by
  have hw : agendaWeight s'.tick < agendaWeight s.tick := by
    cases hl : s.tick.todo with
    | nil => rw [tickStep_idle hl] at h; cases h
    | cons t ts =>
      obtain ⟨u, hu, hw⟩ := tickStep_progress hl
      rw [hu] at h; cases h; exact hw
  obtain ⟨k, hk⟩ : ∃ k, agendaWeight s.tick = k + 1 := ⟨agendaWeight s.tick - 1, by omega⟩
  rw [finishTick_eq (n := k + 1) (by omega), drainTick_some _ h, finishTick_eq (n := k) (by omega)]

section

variable {t : TickTask} {rest parts : List TickTask} {k : Nat} {s u : State} (hs : s.tick = ⟨t :: rest, k⟩)

include hs

theorem finishTick_done (h : tickTaskStep t k s = (u, .done)) :
    finishTick s = finishTick { u with tick := ⟨rest, 0⟩ } :=
  finishTick_step (by simp [tickStep, hs, h, Ctl.agenda])

theorem finishTick_again (h : tickTaskStep t k s = (u, .again)) :
    finishTick s = finishTick { u with tick := ⟨t :: rest, k + 1⟩ } :=
  finishTick_step (by simp [tickStep, hs, h, Ctl.agenda])

theorem finishTick_into (h : tickTaskStep t k s = (u, .into parts)) :
    finishTick s = finishTick { u with tick := ⟨parts ++ rest, 0⟩ } :=
  finishTick_step (by simp [tickStep, hs, h, Ctl.agenda])

/-- A fault ends the handler: nothing of it is left (60_exceptions R221). -/
theorem finishTick_raised (h : tickTaskStep t k s = (u, .raised)) :
    finishTick s = { u with tick := Agenda.idle } := by
  rw [finishTick_step (s' := { u with tick := Agenda.idle }) (by simp [tickStep, hs, h, Ctl.agenda])]
  exact finishTick_none rfl

end

/-! ### The parts of the handler -/

/-- GLOW_STEP as one change of the state (41_blink_effects R122). -/
def glowed (s : State) : State :=
  if s.glowArmed then
    if s.glowCount ≤ 1 then { s with glowCount := 0, glowPin := false, glowArmed := false }
    else { s with glowCount := s.glowCount - 1 }
  else s

/-- ALARM_STEP as one change of the state (41_blink_effects R125). -/
def alarmed (s : State) : State :=
  if s.alarmArmed then
    if Config.alarmBudget ≤ s.alarmCount + 1 then
      { s with alarmPin := false, alarmCount := s.alarmCount + 1, alarmArmed := false }
    else { s with alarmPin := !s.alarmPin, alarmCount := s.alarmCount + 1 }
  else s

/-- PACE_STEP as one change of the state (40_tick_source R103, R104). -/
def paced (s : State) : State :=
  if Config.effectDiv ≤ s.paceCount + 1 then alarmed (glowed { s with paceCount := 0 })
  else { s with paceCount := s.paceCount + 1 }

/-- The pattern MUX_STEP drives; 0 where the digit has no entry, which no legal value reaches. -/
def pattern (s : State) : BitVec 7 := (segRead (digit s.displayValue.toNat s.digitSlot)).getD 0

/-- MUX_STEP on a legal DisplayValue as one change of the state (42_display_mux R143). -/
def muxed (s : State) : State :=
  { s with an := onehot s.digitSlot, seg := pattern s, digitSlot := s.digitSlot + 1 }

/-- MUX_STEP on a DisplayValue out of range (42_display_mux R146). -/
def muxFaulted (s : State) : State :=
  { s with an := 0, faults := s.faults.add (.displayRange s.displayValue.toNat) }

theorem glowStep_eq (s : State) : glowStep s = (glowed s, .done) := by
  unfold glowStep glowed glowCountDown
  split <;> [skip; rfl]
  split <;> split <;> (try split at *) <;> (try rfl) <;> omega

theorem glowed_tick (s : State) : (glowed s).tick = s.tick := by
  unfold glowed; (repeat' split) <;> rfl

theorem alarmed_tick (s : State) : (alarmed s).tick = s.tick := by
  unfold alarmed; (repeat' split) <;> rfl

theorem paced_tick (s : State) : (paced s).tick = s.tick := by
  unfold paced; split <;> simp [alarmed_tick, glowed_tick]

theorem glowed_setTick (s : State) (a : Agenda TickTask) :
    glowed { s with tick := a } = { glowed s with tick := a } := by
  unfold glowed; dsimp only; (repeat' split) <;> rfl

theorem alarmed_setTick (s : State) (a : Agenda TickTask) :
    alarmed { s with tick := a } = { alarmed s with tick := a } := by
  unfold alarmed; dsimp only; (repeat' split) <;> rfl

/-- GLOW_STEP and ALARM_STEP touch disjoint fields (40_tick_source R104). -/
theorem alarmed_glowed (s : State) : alarmed (glowed s) = glowed (alarmed s) := by
  unfold alarmed glowed; (repeat' split) <;> simp_all

theorem finishTick_glow {rest : List TickTask} {s : State} (hs : s.tick = ⟨.glow :: rest, 0⟩) :
    finishTick s = finishTick { glowed s with tick := ⟨rest, 0⟩ } :=
  finishTick_done hs (glowStep_eq s)

theorem finishTick_alarm {rest : List TickTask} {s : State} (hs : s.tick = ⟨.alarm :: rest, 0⟩) :
    finishTick s = finishTick { alarmed s with tick := ⟨rest, 0⟩ } := by
  by_cases ha : s.alarmArmed = true
  · rw [finishTick_again hs (u := { s with alarmPin := !s.alarmPin })
      (by simp [tickTaskStep, alarmStep, ha])]
    by_cases hb : Config.alarmBudget ≤ s.alarmCount + 1
    · rw [finishTick_done (k := 1) rfl
        (u := { s with
          alarmPin := false, alarmCount := s.alarmCount + 1, alarmArmed := false,
          tick := ⟨.alarm :: rest, 1⟩ }) (by simp [tickTaskStep, alarmStep, alarmBudgetReached, hb])]
      simp [alarmed, ha, hb]
    · rw [finishTick_done (k := 1) rfl
        (u := { s with
          alarmPin := !s.alarmPin, alarmCount := s.alarmCount + 1,
          tick := ⟨.alarm :: rest, 1⟩ }) (by simp [tickTaskStep, alarmStep, alarmBudgetReached, hb])]
      simp [alarmed, ha, hb]
  · rw [finishTick_done hs (u := s) (by simp [tickTaskStep, alarmStep, ha])]
    simp [alarmed, ha]

theorem finishTick_effect {rest : List TickTask} {s : State} (hs : s.tick = ⟨.effect :: rest, 0⟩) :
    finishTick s = finishTick { alarmed (glowed s) with tick := ⟨rest, 0⟩ } := by
  rw [finishTick_into hs (u := s) (parts := [.glow, .alarm]) rfl, finishTick_glow rfl, finishTick_alarm rfl]
  simp [glowed_setTick, alarmed_setTick]

theorem finishTick_pace {rest : List TickTask} {s : State} (hs : s.tick = ⟨.pace :: rest, 0⟩) :
    finishTick s = finishTick { paced s with tick := ⟨rest, 0⟩ } := by
  by_cases h : Config.effectDiv ≤ s.paceCount + 1
  · rw [finishTick_into hs (u := { s with paceCount := 0 }) (parts := [.effect])
      (by simp [tickTaskStep, paceStep, effectTickDue, h])]
    refine (finishTick_effect rfl).trans ?_
    rw [glowed_setTick (s := { s with paceCount := 0 }), alarmed_setTick]
    simp [paced, h]
  · rw [finishTick_done hs (u := { s with paceCount := s.paceCount + 1 })
      (by simp [tickTaskStep, paceStep, effectTickDue, h])]
    simp [paced, h]

theorem segRead_digit {s : State} (h : DisplayLegal s) :
    segRead (digit s.displayValue.toNat s.digitSlot) = some (pattern s) := by
  obtain ⟨p, hp⟩ := segRead_some _ (place_lt_ten s.displayValue.toNat (Config.slotPlace s.digitSlot) h)
  simp only [pattern, digit] at *
  rw [hp]; rfl

theorem finishTick_mux {rest : List TickTask} {s : State} (hs : s.tick = ⟨.mux :: rest, 0⟩)
    (h : DisplayLegal s) : finishTick s = finishTick { muxed s with tick := ⟨rest, 0⟩ } := by
  have hr : outOfRange s.displayValue = false := by
    have h' : s.displayValue.toNat ≤ Config.dvMax := h
    simpa [outOfRange] using h'
  have hp := segRead_digit h
  rw [finishTick_again hs (u := { s with an := 0 }) rfl,
    finishTick_again (k := 1) rfl
      (u := { s with an := 0, seg := pattern s, tick := ⟨.mux :: rest, 1⟩ })
      (by simp [tickTaskStep, muxStep, muxPattern, hr, hp]),
    finishTick_again (k := 2) rfl rfl, finishTick_done (k := 3) rfl rfl]
  rfl

theorem finishTick_mux_fault {rest : List TickTask} {s : State} (hs : s.tick = ⟨.mux :: rest, 0⟩)
    (h : ¬ DisplayLegal s) : finishTick s = { muxFaulted s with tick := Agenda.idle } := by
  have hr : outOfRange s.displayValue = true := by
    have h' : ¬ s.displayValue.toNat ≤ Config.dvMax := h
    simpa [outOfRange] using h'
  rw [finishTick_again hs (u := { s with an := 0 }) rfl,
    finishTick_raised (k := 1) rfl
      (u := raise (.displayRange s.displayValue.toNat)
        { s with an := 0, tick := ⟨.mux :: rest, 1⟩ })
      (by simp [tickTaskStep, muxStep, muxPattern, hr])]
  rfl

theorem finishTick_ack {rest : List TickTask} {s : State} (hs : s.tick = ⟨.ack :: rest, 0⟩) :
    finishTick s = finishTick { s with tickPending := false, tick := ⟨rest, 0⟩ } := by
  rw [finishTick_done hs (u := acknowledge s) rfl]; rfl

/-! ### The parts performed whole -/

theorem setTick_self {u : State} (h : u.tick = Agenda.idle) : { u with tick := ⟨[], 0⟩ } = u := by
  cases u; cases h; rfl

theorem paced_setTick (s : State) (a : Agenda TickTask) :
    paced { s with tick := a } = { paced s with tick := a } := by
  unfold paced
  dsimp only
  split
  · rw [← alarmed_setTick, ← glowed_setTick]
  · rfl

section

variable {s : State} (ht : s.tick = Agenda.idle)

include ht

theorem performTick_glow : performTick [.glow] s = glowed s := by
  rw [performTick_ready ht, finishTick_glow rfl, finishTick_none rfl, glowed_setTick]
  exact setTick_self (by rw [glowed_tick, ht])

theorem performTick_alarm : performTick [.alarm] s = alarmed s := by
  rw [performTick_ready ht, finishTick_alarm rfl, finishTick_none rfl, alarmed_setTick]
  exact setTick_self (by rw [alarmed_tick, ht])

theorem performTick_effect : performTick [.effect] s = alarmed (glowed s) := by
  rw [performTick_ready ht, finishTick_effect rfl, finishTick_none rfl, glowed_setTick, alarmed_setTick]
  exact setTick_self (by rw [alarmed_tick, glowed_tick, ht])

theorem performTick_pace : performTick [.pace] s = paced s := by
  rw [performTick_ready ht, finishTick_pace rfl, finishTick_none rfl, paced_setTick]
  exact setTick_self (by rw [paced_tick, ht])

theorem performTick_mux (h : DisplayLegal s) : performTick [.mux] s = muxed s := by
  rw [performTick_ready ht, finishTick_mux (s := { s with tick := ⟨[.mux], 0⟩ }) rfl h, finishTick_none rfl]
  cases s; cases ht; rfl

theorem performTick_mux_fault (h : ¬ DisplayLegal s) : performTick [.mux] s = muxFaulted s := by
  rw [performTick_ready ht, finishTick_mux_fault (s := { s with tick := ⟨[.mux], 0⟩ }) rfl h]
  cases s; cases ht; rfl

theorem performTick_ack : performTick [.ack] s = { s with tickPending := false } := by
  rw [performTick_ready ht, finishTick_ack rfl, finishTick_none rfl]
  cases s; cases ht; rfl

/-- TICK_HANDLER performed whole on a legal DisplayValue (40_tick_source R102). -/
theorem performHandler_legal (hp : s.tickPending = true) (h : DisplayLegal s) :
    performHandler s = { muxed (paced s) with tickPending := false } := by
  have hl : DisplayLegal { paced s with tick := ⟨[.mux, .ack], 0⟩ } := by
    have : (paced s).displayValue = s.displayValue := by
      unfold paced alarmed glowed; (repeat' split) <;> rfl
    simpa [DisplayLegal, this] using h
  have ht2 : (paced s).tick = Agenda.idle := by rw [paced_tick, ht]
  rw [performHandler_ready ht, if_pos hp, enterHandler, finishTick_pace rfl, paced_setTick,
    finishTick_mux rfl hl, finishTick_ack rfl, finishTick_none rfl]
  generalize paced s = u at *
  cases u; cases ht2; rfl

/-- TICK_HANDLER performed whole on a DisplayValue out of range (42_display_mux R146). -/
theorem performHandler_fault (hp : s.tickPending = true) (h : ¬ DisplayLegal s) :
    performHandler s = muxFaulted (paced s) := by
  have hl : ¬ DisplayLegal { paced s with tick := ⟨[.mux, .ack], 0⟩ } := by
    have : (paced s).displayValue = s.displayValue := by
      unfold paced alarmed glowed; (repeat' split) <;> rfl
    simpa [DisplayLegal, this] using h
  have ht2 : (paced s).tick = Agenda.idle := by rw [paced_tick, ht]
  rw [performHandler_ready ht, if_pos hp, enterHandler, finishTick_pace rfl, paced_setTick,
    finishTick_mux_fault rfl hl]
  generalize paced s = u at *
  cases u; cases ht2; rfl

/-- One TICK of a running timer (40_tick_source R108). -/
theorem tickOnce_legal (hr : s.tickRun = true) (h : DisplayLegal s) :
    tickOnce s = { muxed (paced { s with tickPending := true }) with tickPending := false } := by
  have : fireTimer s = { s with tickPending := true } := by simp [fireTimer, pendingAfterFire, hr]
  rw [tickOnce, this]
  exact performHandler_legal (s := { s with tickPending := true }) ht rfl h

end

/-! ### SegIndex is never raised (42_display_mux R142) -/

/-- A micro-step of the polling context raises no SegIndex. -/
theorem pollStep_segIndex {s s' : State} (h : pollStep s = some s') :
    s'.faults.segIndex = s.faults.segIndex := by
  obtain ⟨t, rest, a, -, -, rfl⟩ := pollStep_cases h
  show (taskStep t s.poll.stage s).1.faults.segIndex = _
  cases t <;> simp only [taskStep, tickStartStep, dvWriteStep, dvCurrencyStep, writeDisplayCurrency,
    glowTriggerStep, alarmTriggerStep, keyScanStep, scanDriveStep, scanSettleStep, scanSampleStep,
    scanRestoreStep, scanQuietStep, scanReturnStep, rowDriveStep, colSampleStep, rowRestoreStep,
    releaseWaitStep, selectReleaseRows, delayStep, modeReadStep, gameBootStep, enterLoopStep,
    menuIterStep, menuRouteStep, modeselIterStep, modeselRouteStep, playEnterStep, playStepStep,
    stepEndStep, swEdgeStep, entAdvanceStep, collectCheckStep, hazardCheckStep, lossEndStep,
    storeIterStep, storeRouteStep, storePurchaseStep, recordGlyphStep, gameExitStep, pinConfigStep,
    callStep, adcReadStep] <;> (repeat' split) <;> rfl

/-- The pattern step of MUX_STEP raises no SegIndex: a value in range has digits with an entry (R142). -/
theorem muxPattern_segIndex (s : State) : (muxPattern s).1.faults.segIndex = s.faults.segIndex := by
  unfold muxPattern
  split
  · rfl
  · rename_i h
    obtain ⟨p, hp⟩ := segRead_some (digit s.displayValue.toNat s.digitSlot)
      (place_lt_ten _ _ (by simpa [outOfRange, Config.dvMax] using h))
    rw [hp]

/-- A micro-step of the handler raises no SegIndex. -/
theorem tickStep_segIndex {s s' : State} (h : tickStep s = some s') :
    s'.faults.segIndex = s.faults.segIndex := by
  obtain ⟨t, rest, a, -, -, rfl⟩ := tickStep_cases h
  show (tickTaskStep t s.tick.stage s).1.faults.segIndex = _
  cases t <;> simp only [tickTaskStep, paceStep, effectStep, glowStep, alarmStep, muxStep, ackStep] <;>
    (repeat' split) <;> first | rfl | exact muxPattern_segIndex s

end Sys2Proof.Machine
end

