-- ==== Sys2Proof/Laws/PerInstr.lean ====
section
/-! SUPPORT. A statement per instruction, as syntax: its OPN and ARG fit their fields of 30_encoding R81, and the
decoder reads the instruction back from them. -/

namespace Sys2Proof.Laws.Encoding

/-- OPN in 8 bits, ARG in 16, and the two read back as the instruction, where its operands are legal. -/
def Statement (i : Instr) : Prop :=
  i.wellFormed = true → i.opn < 256 ∧ i.arg < 65536 ∧ decodeParts i.opn i.arg = .ok i

/-- An instruction with ARG format N, V or B. -/
theorem of_parts {i : Instr} (ho : i.opn < 256) (ha : i.arg < 65536)
    (hd : decodeParts i.opn i.arg = .ok i) : Statement i := fun _ => ⟨ho, ha, hd⟩

theorem reset : Statement .reset :=
  of_parts (by decide) (by decide) rfl
theorem tmrFire : Statement .tmrFire :=
  of_parts (by decide) (by decide) rfl
theorem tickHandler : Statement .tickHandler :=
  of_parts (by decide) (by decide) rfl
theorem paceStep : Statement .paceStep :=
  of_parts (by decide) (by decide) rfl
theorem effectTick : Statement .effectTick :=
  of_parts (by decide) (by decide) rfl
theorem glowStep : Statement .glowStep :=
  of_parts (by decide) (by decide) rfl
theorem alarmStep : Statement .alarmStep :=
  of_parts (by decide) (by decide) rfl
theorem muxStep : Statement .muxStep :=
  of_parts (by decide) (by decide) rfl
theorem irqAck : Statement .irqAck :=
  of_parts (by decide) (by decide) rfl
theorem tickStart : Statement .tickStart :=
  of_parts (by decide) (by decide) rfl
theorem dvWrite (v : BitVec 16) : Statement (.dvWrite v) :=
  of_parts (Nat.lt_of_sub_eq_succ rfl) v.isLt (by simp [decodeParts, Instr.opn, Instr.arg, argV])
theorem glowTrigger : Statement .glowTrigger :=
  of_parts (by decide) (by decide) rfl
theorem alarmTrigger : Statement .alarmTrigger :=
  of_parts (by decide) (by decide) rfl
theorem keyScan : Statement .keyScan :=
  of_parts (by decide) (by decide) rfl
theorem rowDrive (r : BitVec 2) : Statement (.rowDrive r) :=
  by revert r; unfold Statement; decide
theorem settleWait : Statement .settleWait :=
  of_parts (by decide) (by decide) rfl
theorem colSample : Statement .colSample :=
  of_parts (by decide) (by decide) rfl
theorem rowRestore (r : BitVec 2) : Statement (.rowRestore r) :=
  by revert r; unfold Statement; decide
theorem releaseWait : Statement .releaseWait :=
  of_parts (by decide) (by decide) rfl
theorem quietWait : Statement .quietWait :=
  of_parts (by decide) (by decide) rfl
theorem modeRead : Statement .modeRead :=
  of_parts (by decide) (by decide) rfl
theorem wait (d : BitVec 16) : Statement (.wait d) :=
  of_parts (Nat.lt_of_sub_eq_succ rfl) d.isLt (by simp [decodeParts, Instr.opn, Instr.arg, argV])
theorem gameBoot : Statement .gameBoot :=
  of_parts (by decide) (by decide) rfl
theorem menuIter : Statement .menuIter :=
  of_parts (by decide) (by decide) rfl
theorem modeselIter : Statement .modeselIter :=
  of_parts (by decide) (by decide) rfl
theorem playEnter : Statement .playEnter :=
  of_parts (by decide) (by decide) rfl
theorem playStep : Statement .playStep :=
  of_parts (by decide) (by decide) rfl
theorem swEdge : Statement .swEdge :=
  of_parts (by decide) (by decide) rfl
theorem entAdvance (e : BitVec 2) : Statement (.entAdvance e) :=
  by revert e; unfold Statement; decide
theorem collectCheck : Statement .collectCheck :=
  of_parts (by decide) (by decide) rfl
theorem hazardCheck : Statement .hazardCheck :=
  of_parts (by decide) (by decide) rfl
theorem storeIter : Statement .storeIter :=
  of_parts (by decide) (by decide) rfl
theorem storePurchase (i : BitVec 2) : Statement (.storePurchase i) :=
  by revert i; unfold Statement; decide
theorem gameExit : Statement .gameExit :=
  of_parts (by decide) (by decide) rfl
theorem pinConfig : Statement .pinConfig :=
  of_parts (by decide) (by decide) rfl
theorem lcdCmd (b : Byte) : Statement (.lcdCmd b) :=
  of_parts (Nat.lt_of_sub_eq_succ rfl) (show b.toNat < 65536 by omega) (by
    simp [decodeParts, Instr.opn, Instr.arg, argB]; omega)
theorem lcdGlyph (b : Byte) : Statement (.lcdGlyph b) :=
  of_parts (Nat.lt_of_sub_eq_succ rfl) (show b.toNat < 65536 by omega) (by
    simp [decodeParts, Instr.opn, Instr.arg, argB]; omega)
theorem lcdCursor (row : BitVec 1) (col : BitVec 4) : Statement (.lcdCursor row col) :=
  by revert row col; unfold Statement; decide
theorem adcRead (id : Byte) : Statement (.adcRead id) :=
  of_parts (Nat.lt_of_sub_eq_succ rfl) (show id.toNat < 65536 by omega) (by
    simp [decodeParts, Instr.opn, Instr.arg, argB]; omega)
theorem audioPulse : Statement .audioPulse :=
  of_parts (by decide) (by decide) rfl
theorem envKey (level : Bool) (row col : BitVec 2) : Statement (.envKey level row col) :=
  by revert level row col; unfold Statement; decide
theorem envSw (level : Bool) : Statement (.envSw level) :=
  by revert level; unfold Statement; decide

end Sys2Proof.Laws.Encoding
end

