-- ==== Sys2Proof/Laws/Polling.lean ====
section
/-! SUPPORT. An operation of the polling context performed whole always ends: how many micro-steps a task can
still take, and that finishing goes on micro-step by micro-step. -/

namespace Sys2Proof.Machine

/-- At most this many micro-steps a task not yet begun, or begun to stage `k`, can still take with its parts. -/
def taskWeight : Task → Nat → Nat
  | .glowTrigger, k => 3 - min k 2
  | .alarmTrigger, k => 3 - min k 2
  | .keyScan, _ => 22
  | .scanRestore, _ => 18
  | .releaseWait, k => 3 - min k 2
  | .gameBoot, _ => 5
  | .menuIter, _ => 26
  | .menuRoute, _ => 2
  | .modeselIter, _ => 25
  | .modeselRoute, _ => 2
  | .playStep, _ => 22
  | .stepEnd, _ => 2
  | .collectCheck, _ => 6
  | .hazardCheck, _ => 8
  | .storeIter, _ => 28
  | .storeRoute, _ => 4
  | .storePurchase _, _ => 3
  | _, _ => 1

/-- The weight of a list of tasks not yet begun. -/
def taskTotal : List Task → Nat
  | [] => 0
  | t :: ts => taskWeight t 0 + taskTotal ts

/-- The weight of SCAN_RESTORE in the row of KS_ROW = `r`: what is left of the scan loop after it. -/
def restoreWeight (r : BitVec 2) : Nat := 18 - 4 * r.toNat

/-- At most this many micro-steps the polling context can still take. -/
def pollWeight (s : State) : Nat :=
  match s.poll.todo with
  | [] => 0
  | .scanDrive :: .scanSettle :: .scanSample :: .scanRestore :: ts => 3 + restoreWeight s.ksRow + taskTotal ts
  | .scanSettle :: .scanSample :: .scanRestore :: ts => 2 + restoreWeight s.ksRow + taskTotal ts
  | .scanSample :: .scanRestore :: ts => 1 + restoreWeight s.ksRow + taskTotal ts
  | .scanRestore :: ts => restoreWeight s.ksRow + taskTotal ts
  | t :: ts => taskWeight t s.poll.stage + taskTotal ts

theorem taskWeight_le (t : Task) (k : Nat) : taskWeight t k ≤ 28 := by
  cases t <;> simp only [taskWeight] <;> omega

theorem taskTotal_le (ts : List Task) : taskTotal ts ≤ 28 * ts.length := by
  induction ts with
  | nil => simp [taskTotal]
  | cons t ts ih =>
    have := taskWeight_le t 0
    simp only [taskTotal, List.length_cons]; omega

theorem taskTotal_append (ts us : List Task) : taskTotal (ts ++ us) = taskTotal ts + taskTotal us := by
  induction ts with
  | nil => simp [taskTotal]
  | cons t ts ih => simp only [List.cons_append, taskTotal, ih]; omega

theorem restoreWeight_le (r : BitVec 2) : restoreWeight r ≤ 18 := Nat.sub_le _ _

/-- The weight is never above that of the list as if nothing of it were begun. -/
theorem pollWeight_le {s : State} {ts : List Task} (h : s.poll = ⟨ts, 0⟩) : pollWeight s ≤ taskTotal ts := by
  have := restoreWeight_le s.ksRow
  unfold pollWeight
  rw [h]
  dsimp only
  split <;> simp only [taskTotal, taskWeight] <;> omega

theorem pollWeight_le_length (s : State) : pollWeight s ≤ taskFuel * s.poll.todo.length := by
  have := restoreWeight_le s.ksRow
  unfold pollWeight taskFuel
  split <;> rename_i heq <;> rw [heq] <;> simp only [List.length_cons, List.length_nil]
  all_goals
    first
    | omega
    | (rename_i ts; have := taskTotal_le ts; omega)
    | (rename_i t ts _ _ _ _; have := taskTotal_le ts; have := taskWeight_le t s.poll.stage; omega)

/-- What a micro-step leaves of its own task, for every task but SCAN_RESTORE, whose next round KS_ROW bounds. -/
theorem taskStep_weight (t : Task) (k : Nat) (s : State) (ht : t ≠ .scanRestore) :
    1 ≤ taskWeight t k ∧
    ((taskStep t k s).2 = .again → taskWeight t (k + 1) < taskWeight t k) ∧
    ∀ parts, (taskStep t k s).2 = .into parts → taskTotal parts < taskWeight t k := by
  refine ⟨by cases t <;> simp only [taskWeight] <;> omega, ?_, ?_⟩
  · cases t <;> simp only [taskStep, tickStartStep, dvWriteStep, dvCurrencyStep, keyScanStep, scanDriveStep,
      scanSettleStep, scanSampleStep, scanQuietStep, scanReturnStep, rowDriveStep, colSampleStep,
      rowRestoreStep, delayStep, modeReadStep, gameBootStep, enterLoopStep, menuIterStep, menuRouteStep,
      modeselIterStep, modeselRouteStep, playEnterStep, playStepStep, stepEndStep, swEdgeStep,
      entAdvanceStep, collectCheckStep, hazardCheckStep, lossEndStep, storeIterStep, storeRouteStep,
      storePurchaseStep, recordGlyphStep, gameExitStep, pinConfigStep, callStep, adcReadStep] <;>
      (repeat' split) <;> (try (intro h; cases h))
    · unfold glowTriggerStep; intro h; split at h <;> first | (cases h; decide) | cases h
    · unfold alarmTriggerStep; intro h; split at h <;> first | (cases h; decide) | cases h
    · exact absurd rfl ht
    · unfold releaseWaitStep; intro h; split at h <;> (try split at h) <;>
        first | (cases h; decide) | cases h
  · intro parts
    cases t <;> simp only [taskStep, tickStartStep, dvWriteStep, dvCurrencyStep, glowTriggerStep,
      alarmTriggerStep, keyScanStep, scanDriveStep, scanSettleStep, scanSampleStep, scanQuietStep,
      scanReturnStep, rowDriveStep, colSampleStep, rowRestoreStep, releaseWaitStep, delayStep, modeReadStep,
      gameBootStep, enterLoopStep, menuIterStep, menuRouteStep, modeselIterStep, modeselRouteStep,
      playEnterStep, playStepStep, stepEndStep, swEdgeStep, entAdvanceStep, collectCheckStep,
      hazardCheckStep, lossEndStep, storeIterStep, storeRouteStep, storePurchaseStep, recordGlyphStep,
      gameExitStep, pinConfigStep, callStep, adcReadStep] <;>
      (repeat' split) <;> (try (intro h; cases h)) <;>
      (try simp [taskWeight, taskTotal, scanRound])
    exact absurd rfl ht

theorem scanRestore_ksRow (k : Nat) (s : State) :
    (taskStep .scanRestore k s).2 = .into scanRound →
      s.ksRow.toNat < 3 ∧ (taskStep .scanRestore k s).1.ksRow = s.ksRow + 1 := by
  simp only [taskStep, scanRestoreStep]
  split
  · split
    · intro h; cases h
    · rename_i h3
      intro _
      refine ⟨?_, rfl⟩
      have := s.ksRow.isLt
      have : s.ksRow.toNat ≠ 3 := fun h => h3 (BitVec.eq_of_toNat_eq (by simpa using h))
      omega
  · intro h; simp [scanRound] at h

/-- Every micro-step of the polling context leaves it less to do. -/
theorem pollStep_weight {s s' : State} (h : pollStep s = some s') : pollWeight s' < pollWeight s := by
  obtain ⟨t, rest, a, h1, h2, rfl⟩ := pollStep_cases h
  have hr := restoreWeight_le s.ksRow
  generalize hu : ({ (taskStep t s.poll.stage s).1 with poll := a } : State) = u
  have hup : u.poll = a := by rw [← hu]
  have huk : u.ksRow = (taskStep t s.poll.stage s).1.ksRow := by rw [← hu]
  by_cases ht : t = .scanRestore
  · subst ht
    have hw : pollWeight s = restoreWeight s.ksRow + taskTotal rest := by simp [pollWeight, h1]
    have hk := scanRestore_ksRow s.poll.stage s
    rw [hw]
    have hpos : 6 ≤ restoreWeight s.ksRow := by
      have := s.ksRow.isLt; unfold restoreWeight; omega
    generalize hc : (taskStep .scanRestore s.poll.stage s).2 = c at *
    simp only [taskStep, scanRestoreStep] at hc
    split at hc
    · split at hc
      · subst hc; cases h2
        have := pollWeight_le hup; omega
      · subst hc; cases h2
        obtain ⟨h3, h4⟩ := hk rfl
        have : pollWeight u = 3 + restoreWeight u.ksRow + taskTotal rest := by
          simp [pollWeight, hup, scanRound]
        rw [this, huk, h4]
        have e : (s.ksRow + 1).toNat = s.ksRow.toNat + 1 := by
          rw [BitVec.toNat_add]; simp; omega
        unfold restoreWeight; rw [e]; omega
    · subst hc; cases h2
      have := pollWeight_le hup
      simp [taskTotal, taskWeight] at this; omega
  · obtain ⟨w1, w2, w3⟩ := taskStep_weight t s.poll.stage s ht
    have plain : pollWeight s = taskWeight t s.poll.stage + taskTotal rest → pollWeight u < pollWeight s := by
      intro hw
      rw [hw]
      generalize (taskStep t s.poll.stage s).2 = c at *
      cases c with
      | done => cases h2; have := pollWeight_le hup; omega
      | again =>
        cases h2
        have := w2 rfl
        refine lt_of_le_of_lt ?_ (Nat.add_lt_add_right this _)
        unfold pollWeight
        rw [hup]
        dsimp only
        split <;> rename_i heq <;> (try cases heq) <;> simp_all [taskWeight]
      | into parts =>
        cases h2
        have := pollWeight_le hup
        have := w3 parts rfl
        rw [taskTotal_append] at *; omega
      | hold => cases h2
      | raised => cases h2; have := pollWeight_le hup; simp only [taskTotal] at this; omega
    have done : (taskStep t s.poll.stage s).2 = .done → a = ⟨rest, 0⟩ := by
      intro h; rw [h] at h2; exact (Option.some.inj h2).symm
    have hw : pollWeight s = pollWeight s := rfl
    conv_rhs at hw => unfold pollWeight
    split at hw <;> rename_i heq
    · rw [heq] at h1; cases h1
    · rw [heq] at h1; cases h1
      have hk : u.ksRow = s.ksRow := by rw [huk]; rfl
      rw [hw, ← hk]; unfold pollWeight; rw [hup, done rfl]; simp only []; omega
    · rw [heq] at h1; cases h1
      have hk : u.ksRow = s.ksRow := by rw [huk]; rfl
      rw [hw, ← hk]; unfold pollWeight; rw [hup, done rfl]; simp only []; omega
    · rw [heq] at h1; cases h1
      have hk : u.ksRow = s.ksRow := by rw [huk]; rfl
      rw [hw, ← hk]; unfold pollWeight; rw [hup, done rfl]; simp only []; omega
    · rw [heq] at h1; cases h1; exact absurd rfl ht
    · rw [heq] at h1; cases h1; exact plain hw

/-- A micro-step leaves the polling context idle only as between two operations. -/
theorem pollStep_idle_form {s s' : State} (h : pollStep s = some s') (he : s'.poll.todo = []) :
    s'.poll = Agenda.idle := by
  obtain ⟨t, rest, a, -, h2, rfl⟩ := pollStep_cases h
  dsimp only at he ⊢
  generalize (taskStep t s.poll.stage s).2 = c at h2
  cases c with
  | done => cases h2; dsimp only at he; subst he; rfl
  | again => cases h2; cases he
  | into parts => cases h2; dsimp only at he; rw [he]; rfl
  | hold => cases h2
  | raised => cases h2; rfl

theorem drainPoll_stuck (n : Nat) (s : State) (h : pollWeight s ≤ n) : pollStep (drainPoll n s) = none := by
  induction n generalizing s with
  | zero =>
    cases hs : pollStep s with
    | none => simpa using hs
    | some s' => have := pollStep_weight hs; omega
  | succ n ih =>
    cases hs : pollStep s with
    | none => rw [drainPoll_none _ hs]; exact hs
    | some s' => rw [drainPoll_some n hs]; exact ih s' (by have := pollStep_weight hs; omega)

/-- After an operation performed whole the polling context has no micro-step: it is between two operations, or
in a hold. -/
theorem finishPoll_stuck (s : State) : pollStep (finishPoll s) = none :=
  drainPoll_stuck _ _ (pollWeight_le_length s)

theorem drainPoll_enough {n m : Nat} {s : State} (hn : pollWeight s ≤ n) (hm : pollWeight s ≤ m) :
    drainPoll n s = drainPoll m s := by
  induction n generalizing m s with
  | zero =>
    cases hs : pollStep s with
    | none => rw [drainPoll_none _ hs, drainPoll_none _ hs]
    | some s' => have := pollStep_weight hs; omega
  | succ n ih =>
    cases hs : pollStep s with
    | none => rw [drainPoll_none _ hs, drainPoll_none _ hs]
    | some s' =>
      have := pollStep_weight hs
      cases m with
      | zero => omega
      | succ m => rw [drainPoll_some n hs, drainPoll_some m hs]; exact ih (by omega) (by omega)

/-- Finishing is one micro-step, then finishing what is left. -/
theorem finishPoll_step {s s' : State} (h : pollStep s = some s') : finishPoll s = finishPoll s' := by
  have hw := pollStep_weight h
  obtain ⟨k, hk⟩ : ∃ k, taskFuel * s.poll.todo.length = k + 1 :=
    ⟨taskFuel * s.poll.todo.length - 1, by have := pollWeight_le_length s; omega⟩
  have hs := pollWeight_le_length s
  rw [finishPoll, hk, drainPoll_some k h, finishPoll]
  exact drainPoll_enough (by omega) (pollWeight_le_length s')

/-- A polling context that cannot step is between two operations or in the hold of a release-wait. -/
theorem pollStep_none {s : State} (h : pollStep s = none) : s.poll.todo = [] ∨ Holding s := by
  unfold pollStep at h
  split at h
  · left; assumption
  · rename_i t rest heq
    right
    split at h
    · cases h
    · rename_i hn
      have hh : (taskStep t s.poll.stage s).2 = .hold := by
        generalize (taskStep t s.poll.stage s).2 = c at hn
        cases c <;> first | rfl | cases hn
      have ht : t = .releaseWait := by
        cases t <;> (try rfl) <;> exfalso <;> revert hh <;>
          simp only [taskStep, tickStartStep, dvWriteStep, dvCurrencyStep, glowTriggerStep, alarmTriggerStep,
            keyScanStep, scanDriveStep, scanSettleStep, scanSampleStep, scanRestoreStep, scanQuietStep,
            scanReturnStep, rowDriveStep, colSampleStep, rowRestoreStep, delayStep, modeReadStep,
            gameBootStep, enterLoopStep, menuIterStep, menuRouteStep, modeselIterStep, modeselRouteStep,
            playEnterStep, playStepStep, stepEndStep, swEdgeStep, entAdvanceStep, collectCheckStep,
            hazardCheckStep, lossEndStep, storeIterStep, storeRouteStep, storePurchaseStep,
            recordGlyphStep, gameExitStep, pinConfigStep, callStep, adcReadStep] <;>
          (repeat' split) <;> intro hh <;> cases hh
      subst ht
      simp only [taskStep, releaseWaitStep] at hh
      split at hh
      · cases hh
      · rename_i hk
        split at hh
        · cases hh
        · rename_i hc; exact ⟨by rw [heq]; rfl, hk, hc⟩
      · cases hh

end Sys2Proof.Machine
end

