-- ==== Sys2Proof/Machine/Lines.lean ====
section
/-! DEFINITION. The electrical view of the lines of 60_exceptions R231: what the state holds at logical level
(00_scope R9), as high (1) or low (0) on the wire. No rule depends on it, and no step reads it. Where the spec gives
only the level of a line at logical 1, that the line stands at the opposite level at logical 0, neither released nor
floating, is the model's choice (DESIGN CHOICE, unsafe; log 28): so for AN, SEG, ROW and the mode switch. -/

namespace Sys2Proof.Machine

/-- Lines at logical level, as they stand on the wire, logical 0 being the complement of logical 1 (log 28 where the
spec does not say so). -/
def onWire {n : Nat} (activeHigh : Bool) (v : BitVec n) : BitVec n := if activeHigh then v else ~~~ v

/-- One line at logical level, as it stands on the wire, logical 0 being the complement of logical 1 (log 28 where
the spec does not say so). -/
def pinOnWire (activeHigh level : Bool) : Bool := if activeHigh then level else !level

/-- The anode lines; AN_ACTIVE_LEVEL, the level that enables an anode, is OPEN (00_scope R6, D6). That a blanked
anode stands at the opposite level is the model's choice (DESIGN CHOICE, unsafe; log 28): the spec gives it none. -/
def State.anWire (s : State) : BitVec 4 := onWire Config.anActiveHigh s.an

/-- The segment lines; SEG_ACTIVE_LEVEL, the level that lights a segment, is OPEN (00_scope R6, D6). That a dark
segment stands at the opposite level is the model's choice (DESIGN CHOICE, unsafe; log 28): the spec gives it none. -/
def State.segWire (s : State) : BitVec 7 := onWire Config.segActiveHigh s.seg

/-- GLOW_PIN: active is high, inactive is low (30_encoding R95). -/
def State.glowWire (s : State) : Bool := pinOnWire Config.blinkActiveHigh s.glowPin

/-- ALARM_PIN: active is high, inactive is low (30_encoding R95). -/
def State.alarmWire (s : State) : Bool := pinOnWire Config.blinkActiveHigh s.alarmPin

/-- The row lines: low when selected (00_scope R9). That an unselected row stands high here is the model's choice
(DESIGN CHOICE, unsafe; log 28): 91_not_in_source N21 leaves open whether it is driven high or released. No step
reads this view. -/
def State.rowWire (s : State) : BitVec 4 := onWire false s.row

/-- The column lines: low when asserted (COL_PRESSED_LEVEL), pulled up otherwise (D22, 93 K3). -/
def State.colWire (s : State) : BitVec 4 := onWire Config.colPressedHigh s.columns

/-- The mode switch line; SW_ACTIVE_LEVEL, the level of an asserted switch, is OPEN (00_scope R6, D28). That a switch
not asserted stands at the opposite level is the model's choice (DESIGN CHOICE, unsafe; log 28): the spec gives it
none. -/
def State.swWire (s : State) : Bool := pinOnWire Config.swActiveHigh s.sw

end Sys2Proof.Machine
end

