-- ==== Sys2Proof/Tests/Slice0.lean ====
section
/-! SUPPORT. Tests whose expected results are the spec's (30_encoding, 95_test_vectors), and for every
statement of Certificates/Slice0/Obligations.lean a witness that its hypotheses can be met, clause by
clause, at the boundary values. -/

namespace Sys2Proof.Tests

open Sys2Proof.Machine

/-! ## Well-formedness (30_encoding R82, R90) -/

theorem test_ill_formed_entity :
    (Instr.entAdvance 2).wellFormed = false ∧ (Instr.entAdvance 3).wellFormed = false ∧
    decode 0x260002#24 = .error .illegalOperand ∧ decode 0x260003#24 = .error .illegalOperand := by decide

theorem test_ill_formed_glyph :
    (Instr.storePurchase 3).wellFormed = false ∧ decode 0x2A0003#24 = .error .illegalOperand := by decide

/-! ## Decoding: words written out from 30_encoding R81, R82 and R93 -/

theorem test_decode_system :
    decode 0b00000000_00000000_00000000#24 = .ok .reset ∧
    decode 0b01000000_00000001_00100011#24 = .ok (.envKey true 2 3) ∧
    decode 0b01000000_00000000_00110000#24 = .ok (.envKey false 3 0) ∧
    decode 0b01000001_00000000_00000001#24 = .ok (.envSw true) := by decide

theorem test_decode_tick :
    decode 0b00000001_00000000_00000000#24 = .ok .tmrFire ∧
    decode 0b00000010_00000000_00000000#24 = .ok .tickHandler ∧
    decode 0b00000011_00000000_00000000#24 = .ok .paceStep ∧
    decode 0b00000100_00000000_00000000#24 = .ok .effectTick ∧
    decode 0b00000101_00000000_00000000#24 = .ok .glowStep ∧
    decode 0b00000110_00000000_00000000#24 = .ok .alarmStep ∧
    decode 0b00000111_00000000_00000000#24 = .ok .muxStep ∧
    decode 0b00001000_00000000_00000000#24 = .ok .irqAck ∧
    decode 0b00010000_00000000_00000000#24 = .ok .tickStart := by decide

theorem test_decode_blink_display :
    decode 0b00010010_00000000_00000000#24 = .ok .glowTrigger ∧
    decode 0b00010011_00000000_00000000#24 = .ok .alarmTrigger ∧
    decode 0b00010001_00100111_00001111#24 = .ok (.dvWrite 9999) ∧
    decode 0b00010001_11111111_11111111#24 = .ok (.dvWrite 0xFFFF) := by decide

theorem test_decode_keypad :
    decode 0b00010100_00000000_00000000#24 = .ok .keyScan ∧
    decode 0b00010101_00000000_00000010#24 = .ok (.rowDrive 2) ∧
    decode 0b00010110_00000000_00000000#24 = .ok .settleWait ∧
    decode 0b00010111_00000000_00000000#24 = .ok .colSample ∧
    decode 0b00011000_00000000_00000011#24 = .ok (.rowRestore 3) ∧
    decode 0b00011001_00000000_00000000#24 = .ok .releaseWait ∧
    decode 0b00011010_00000000_00000000#24 = .ok .quietWait := by decide

theorem test_decode_game :
    decode 0b00100000_00000000_00000000#24 = .ok .gameBoot ∧
    decode 0b00100001_00000000_00000000#24 = .ok .menuIter ∧
    decode 0b00100010_00000000_00000000#24 = .ok .modeselIter ∧
    decode 0b00100011_00000000_00000000#24 = .ok .playEnter ∧
    decode 0b00100100_00000000_00000000#24 = .ok .playStep ∧
    decode 0b00100101_00000000_00000000#24 = .ok .swEdge ∧
    decode 0b00100110_00000000_00000001#24 = .ok (.entAdvance 1) ∧
    decode 0b00100111_00000000_00000000#24 = .ok .collectCheck ∧
    decode 0b00101000_00000000_00000000#24 = .ok .hazardCheck ∧
    decode 0b00101001_00000000_00000000#24 = .ok .storeIter ∧
    decode 0b00101010_00000000_00000010#24 = .ok (.storePurchase 2) ∧
    decode 0b00101011_00000000_00000000#24 = .ok .gameExit ∧
    decode 0b00011011_00000000_00000000#24 = .ok .modeRead := by decide

theorem test_decode_collaborators :
    decode 0b00110000_00000000_00000000#24 = .ok .pinConfig ∧
    decode 0b00110001_00000000_10000000#24 = .ok (.lcdCmd 0x80) ∧
    decode 0b00110010_00000000_01000001#24 = .ok (.lcdGlyph 0x41) ∧
    decode 0b00110011_00000000_00010101#24 = .ok (.lcdCursor 1 5) ∧
    decode 0b00110100_00000000_11111111#24 = .ok (.adcRead 0xFF) ∧
    decode 0b00110101_00000000_00000000#24 = .ok .audioPulse ∧
    decode 0b00011100_00000000_11001000#24 = .ok (.wait 200) := by decide

/-- 30_encoding R90 (a): unused bits of each format. -/
theorem test_decode_refuses :
    decode 0x000001#24 = .error .nonzeroUnusedBits ∧ decode 0x180004#24 = .error .nonzeroUnusedBits ∧
    decode 0x310100#24 = .error .nonzeroUnusedBits ∧ decode 0x330020#24 = .error .nonzeroUnusedBits ∧
    decode 0x400040#24 = .error .nonzeroUnusedBits ∧ decode 0x400004#24 = .error .nonzeroUnusedBits ∧
    decode 0x410002#24 = .error .nonzeroUnusedBits ∧ decode 0x420000#24 = .error (.unassignedOpn 0x42) ∧
    decode 0x1D0000#24 = .error (.unassignedOpn 0x1D) := by decide

/-! ## Operations: one step each, the results of 95_test_vectors Part 2 -/

/-- After RESET, PIN_CONFIG and TICK_START. -/
def ready : State := { State.reset with pinsConfigured := true, tickRun := true }

/-- `ready` with one tick pending. -/
def pending : State := { ready with tickPending := true }

/-- The state after the operation word `w`, or `s` where the step stops. -/
def after (w : Nat) (s : State) : State :=
  match step (s.withFetchWord 24 w) with
  | .next t => t
  | .fault _ => s
  | .refused _ => s

/-- Glow = (GlowArmed, GlowCount, GLOW_PIN). -/
def glowOf (s : State) : Bool × Nat × Bool := (s.glowArmed, s.glowCount, s.glowPin)

/-- Alarm = (AlarmArmed, AlarmCount, ALARM_PIN). -/
def alarmOf (s : State) : Bool × Nat × Bool := (s.alarmArmed, s.alarmCount, s.alarmPin)

/-- `ready` with the Glow given. -/
def withGlow (g : Bool × Nat × Bool) : State :=
  { ready with glowArmed := g.1, glowCount := g.2.1, glowPin := g.2.2 }

/-- `ready` with the Alarm given. -/
def withAlarm (a : Bool × Nat × Bool) : State :=
  { ready with alarmArmed := a.1, alarmCount := a.2.1, alarmPin := a.2.2 }

/-- V-RESET-1. -/
theorem test_reset :
    (after 0x000000 { pending with an := 4, displayValue := 7 }).an = 0 ∧
    (after 0x000000 { pending with an := 4, displayValue := 7 }).displayValue = 0 ∧
    (after 0x000000 pending).tickRun = false ∧ (after 0x000000 pending).tickPending = false := by decide

/-- V-TICK-1, first line; V-TICK-3. -/
theorem test_tmr_fire :
    (after 0x010000 ready).tickPending = true ∧ (after 0x010000 State.reset).tickPending = false := by decide

/-- V-TICK-1, the first handler invocation. -/
theorem test_tick_handler :
    let s := after 0x020000 { pending with paceCount := 98, displayValue := 1234, digitSlot := 2, an := 2 }
    s.paceCount = 99 ∧ s.seg = 0x4F ∧ s.an = 0b0100 ∧ s.digitSlot = 3 ∧ s.tickPending = false := by decide

/-- V-TICK-1, the second invocation, with the effect-tick. -/
theorem test_tick_handler_effect :
    let s := after 0x020000
      { withGlow (true, 1, true) with
        tickPending := true, paceCount := 99, displayValue := 1234, digitSlot := 3 }
    s.paceCount = 0 ∧ glowOf s = (false, 0, false) ∧ alarmOf s = (false, 0, false) ∧ s.seg = 0x66 ∧
      s.an = 0b1000 ∧ s.digitSlot = 0 := by decide

/-- V-TICK-4: PaceCount counts 0 to 99. -/
theorem test_pace_step :
    (after 0x030000 ready).paceCount = 1 ∧ (after 0x030000 { ready with paceCount := 99 }).paceCount = 0 := by
  decide

/-- V-INDEP. -/
theorem test_effect_tick :
    let s := after 0x040000
      { withGlow (true, 2, true) with alarmArmed := true, alarmCount := 1, alarmPin := false }
    glowOf s = (true, 1, true) ∧ alarmOf s = (true, 2, true) := by decide

/-- V-GLOW-4. -/
theorem test_glow_step :
    glowOf (after 0x050000 (withGlow (false, 2, false))) = (false, 2, false) ∧
    glowOf (after 0x050000 (withGlow (true, 3, true))) = (true, 2, true) ∧
    glowOf (after 0x050000 (withGlow (true, 1, true))) = (false, 0, false) ∧
    glowOf (after 0x050000 (withGlow (true, 0, false))) = (false, 0, false) ∧
    glowOf (after 0x050000 (withGlow (true, 3, false))) = (true, 2, false) := by decide

/-- V-ALARM-3. -/
theorem test_alarm_step :
    alarmOf (after 0x060000 (withAlarm (false, 6, false))) = (false, 6, false) ∧
    alarmOf (after 0x060000 (withAlarm (true, 0, true))) = (true, 1, false) ∧
    alarmOf (after 0x060000 (withAlarm (true, 0, false))) = (true, 1, true) ∧
    alarmOf (after 0x060000 (withAlarm (true, 4, true))) = (true, 5, false) ∧
    alarmOf (after 0x060000 (withAlarm (true, 5, false))) = (false, 6, false) ∧
    alarmOf (after 0x060000 (withAlarm (true, 5, true))) = (false, 6, false) ∧
    alarmOf (after 0x060000 (withAlarm (true, 6, false))) = (false, 7, false) := by decide

/-- V-MUX-1, the row 5608, and the row 7. -/
theorem test_mux_step :
    (after 0x070000 { ready with displayValue := 5608 }).seg = 0x6D ∧
    (after 0x070000 { ready with displayValue := 5608, digitSlot := 1 }).seg = 0x7D ∧
    (after 0x070000 { ready with displayValue := 5608, digitSlot := 2 }).seg = 0x3F ∧
    (after 0x070000 { ready with displayValue := 5608, digitSlot := 3 }).seg = 0x7F ∧
    (after 0x070000 { ready with displayValue := 7, digitSlot := 3 }).seg = 0x07 := by decide

/-- V-MUX-4. -/
theorem test_mux_step_out_of_range :
    let s := after 0x020000 { pending with displayValue := 10000, an := 8, seg := 0x6F, digitSlot := 1 }
    s.an = 0 ∧ s.faults = ⟨[10000], [], false⟩ ∧ s.seg = 0x6F ∧ s.digitSlot = 1 ∧ s.tickPending = true := by
  decide

theorem test_irq_ack : (after 0x080000 pending).tickPending = false := by decide

/-- V-TICK-5. -/
theorem test_tick_start :
    (after 0x100000 State.reset).tickRun = false ∧ (after 0x100000 State.reset).faults.bootOrder = true ∧
    (after 0x100000 { State.reset with pinsConfigured := true }).tickRun = true := by decide

/-- V-MUX-4: 10000 is stored as given, without a fault. -/
theorem test_dv_write :
    (after 0x112710 ready).displayValue = 10000 ∧ (after 0x112710 ready).faults = FaultSet.empty := by decide

/-- V-GLOW-2. -/
theorem test_glow_trigger :
    glowOf (after 0x120000 (withGlow (true, 1, true))) = (true, 3, true) ∧
    glowOf (after 0x120000 ready) = (true, 3, true) := by decide

/-- V-ALARM-2. -/
theorem test_alarm_trigger : alarmOf (after 0x130000 (withAlarm (true, 3, false))) = (true, 0, true) := by
  decide

/-- V-KEY-2. -/
theorem test_key_scan_no_key :
    (after 0x140000 ready).keyResult = 0xFF ∧ (after 0x140000 ready).row = 0 ∧
    (after 0x140000 ready).poll = Agenda.idle := by decide

/-- V-KEY-1 and V-KEY-3: the key found; the call is held. -/
theorem test_key_scan_hit :
    (after 0x140000 { ready with key := ⟨0, 0, 8, 0⟩ }).ksHit = some (2, 3) ∧
    (after 0x140000 { ready with key := ⟨0, 5, 0, 2⟩ }).ksHit = some (1, 0) ∧
    (after 0x140000 { ready with key := ⟨0, 5, 0, 2⟩ }).colResult = 0b0101 ∧
    (after 0x140000 { ready with key := ⟨0, 5, 0, 2⟩ }).poll.stage = 1 := by
  cases h : Config.releaseRows <;>
    simp [after, step, State.withFetchWord, scriptWithWord, performSlot, performWord, decode, decodeParts,
      argN, exec, execKeyScan, performPoll, finishTick, finishPoll, givePoll, drainTick, taskFuel, ready,
      State.reset, Agenda.idle, Agenda.push, drainPoll, pollStep, taskStep, Ctl.agenda, keyScanStep, scanRound,
      scanDriveStep, scanSettleStep, scanSampleStep, scanRestoreStep, sampleColumns, setRow, setBitAt, onehot,
      State.columns, colSnapshot, rowKeys, bitAt, Config.rowOrder, leastColumn, releaseWaitStep,
      selectReleaseRows, releaseSelect, h]

/-- V-KEY-8. -/
theorem test_key_scan_boot_order : (after 0x140000 State.reset).faults.bootOrder = true := by decide

theorem test_rows :
    (after 0x150002 ready).row = 0b0100 ∧ (after 0x180002 { ready with row := 0b1111 }).row = 0b1011 := by
  decide

/-- V-KEY-1: the sample of row 2. -/
theorem test_col_sample :
    (after 0x170000 { ready with row := 4, key := ⟨1, 2, 8, 4⟩ }).colResult = 0b1000 := by decide

/-- V-KEY-1 and V-KEY-6: RELEASE_WAIT ends at once where the key is up. -/
theorem test_release_wait :
    (after 0x190000 { ready with ksHit := some (2, 3) }).poll = Agenda.idle ∧
    (after 0x190000 { ready with ksHit := some (2, 3) }).row = 0 := by
  cases h : Config.releaseRows <;>
    simp [after, step, State.withFetchWord, scriptWithWord, performSlot, performWord, decode, decodeParts,
      argN, exec, execReleaseWait, performPoll, finishTick, finishPoll, givePoll, drainTick, taskFuel, ready,
      State.reset, Agenda.idle, Agenda.push, drainPoll, pollStep, taskStep, Ctl.agenda, releaseWaitStep,
      selectReleaseRows, releaseSelect, State.columns, colSnapshot, rowKeys, h]

/-- 43_keypad_scanner R163, R169, 45_external_collaborators R211 to R213, R215, R216. -/
theorem test_no_effect :
    after 0x160000 pending = pending ∧ after 0x1A0000 pending = pending ∧ after 0x1C00C8 pending = pending ∧
    after 0x310080 pending = pending ∧ after 0x320041 pending = pending ∧ after 0x330015 pending = pending ∧
    after 0x350000 pending = pending := ⟨rfl, rfl, rfl, rfl, rfl, rfl, rfl⟩

theorem test_mode_read :
    (after 0x1B0000 { ready with sw := true }).modeResult = true ∧
    (after 0x1B0000 ready).modeResult = false := by decide

/-- V-RESET-1, last line. -/
theorem test_game_boot :
    (after 0x200000 State.reset).pinsConfigured = true ∧ (after 0x200000 State.reset).tickRun = true ∧
    (after 0x200000 State.reset).gameState = .menu := by decide

/-- NOKEY is no key's code (30_encoding R84), whichever keys the OPEN codes are. -/
theorem noKey_ne_code : ∀ n : Fin 16, Config.noKey ≠ codeOfKey n := by decide

/-- V-MENU-1, and the same in ModeSelect: no key, no change of GameState. -/
theorem test_menu_iter :
    (after 0x210000 { ready with currency := 7 }).displayValue = 7 ∧
    (after 0x210000 { ready with currency := 7 }).keyResult = 0xFF ∧
    (after 0x210000 { ready with currency := 7 }).gameState = .menu ∧
    (after 0x220000 { ready with gameState := .modeSelect }).keyResult = 0xFF ∧
    (after 0x220000 { ready with gameState := .modeSelect }).gameState = .modeSelect := by
  simp [after, step, State.withFetchWord, scriptWithWord, performSlot, performWord, decode, decodeParts, argN,
    exec, execMenuIter, execModeselIter, performPoll, finishTick, finishPoll, givePoll, drainTick, taskFuel,
    ready, State.reset, Agenda.idle, Agenda.push, drainPoll, pollStep, taskStep, Ctl.agenda, menuIterStep,
    modeselIterStep, dvCurrencyStep, writeDisplayCurrency, writeDisplay, keyScanStep, scanRound, scanDriveStep,
    scanSettleStep, scanSampleStep, scanRestoreStep, sampleColumns, setRow, setBitAt, onehot, State.columns,
    colSnapshot, rowKeys, bitAt, Config.rowOrder, menuRouteStep, modeselRouteStep, noKey_ne_code, kPlay, kExit,
    kStore, kTier, (by decide : 7 < 2 ^ dvWidth)]
  decide

/-- 44_game_loop R191 with no key. -/
theorem test_store_iter :
    (after 0x290000 { ready with gameState := .store }).keyResult = 0xFF ∧
    (after 0x290000 { ready with gameState := .store }).gameState = .store := by
  simp [after, step, State.withFetchWord, scriptWithWord, performSlot, performWord, decode, decodeParts, argN,
    exec, execStoreIter, performPoll, finishTick, finishPoll, givePoll, drainTick, taskFuel, ready, State.reset,
    Agenda.idle, Agenda.push, drainPoll, pollStep, taskStep, Ctl.agenda, storeIterStep, callStep, keyScanStep,
    scanRound, scanDriveStep, scanSettleStep, scanSampleStep, scanRestoreStep, sampleColumns, setRow, setBitAt,
    onehot, State.columns, colSnapshot, rowKeys, bitAt, Config.rowOrder, storeRouteStep, noKey_ne_code, kBuy,
    kBack]
  decide

/-- V-GAME-6: Sw = 1 at PLAY_ENTER gives PrevSw = 1. -/
theorem test_play_enter :
    (after 0x230000 { ready with sw := true }).prevSw = true ∧
    (after 0x230000 { ready with sw := true }).gameState = .playing := by decide

/-- V-GAME-4: the rising edge flips, a level does not. -/
theorem test_sw_edge :
    (after 0x250000 { ready with sw := true }).playerRow = .bottom ∧
    (after 0x250000 { ready with sw := true }).prevSw = true ∧
    (after 0x250000 { ready with sw := true, prevSw := true }).playerRow = .top ∧
    (after 0x250000 { ready with prevSw := true }).playerRow = .top := by decide

/-- V-GAME-1 and V-GAME-3. -/
theorem test_ent_advance :
    (after 0x260000 { ready with collect := ⟨.top, 3⟩ }).collect = ⟨.top, 2⟩ ∧
    (after 0x260000 { ready with collect := ⟨.top, 0⟩ }).collect = ⟨.bottom, 15⟩ ∧
    (after 0x260001 { ready with hazard := ⟨.bottom, 0⟩ }).hazard = ⟨.top, 15⟩ ∧
    (after 0x260001 { ready with collect := ⟨.top, 3⟩ }).collect = ⟨.top, 3⟩ := by decide

/-- V-GAME-2, the check alone: Currency 0 to 1. -/
theorem test_collect_check :
    (exec .collectCheck { ready with collect := ⟨.top, Config.playerCol⟩ }) =
      .next { ready with
        collect := ⟨.top, Config.playerCol⟩, currency := 1, displayValue := 1,
        glowArmed := true, glowCount := 3, glowPin := true } := by
  simp [exec, execCollectCheck, performPoll, finishTick, finishPoll, givePoll, drainTick, taskFuel, ready,
    State.reset, Agenda.idle, Agenda.push, drainPoll, pollStep, taskStep, Ctl.agenda, collectCheckStep,
    inPlayerCell, dvCurrencyStep, writeDisplayCurrency, writeDisplay, callStep, glowTriggerStep,
    Config.glowDuration, Config.currencyInit]

/-- V-GAME-4, the check alone: Alarm = (1, 0, 1), GameState = Menu. -/
theorem test_hazard_check :
    (exec .hazardCheck { ready with gameState := .playing, hazard := ⟨.top, Config.playerCol⟩ }) =
      .next { ready with
        gameState := .menu, hazard := ⟨.top, Config.playerCol⟩,
        alarmArmed := true, alarmCount := 0, alarmPin := true } := by
  simp [exec, execHazardCheck, performPoll, finishTick, finishPoll, givePoll, drainTick, taskFuel, ready,
    State.reset, Agenda.idle, Agenda.push, drainPoll, pollStep, taskStep, Ctl.agenda, hazardCheckStep,
    inPlayerCell, callStep, alarmTriggerStep, delayStep, lossEndStep]

/-- V-STORE-1: rejected below the price. -/
theorem test_store_purchase_rejected (h : Config.price 1 = 5) :
    exec (.storePurchase 1) { ready with currency := 3 } = .next { ready with currency := 3 } := by
  simp [exec, execStorePurchase, glyphOfOperand, performPoll, finishTick, finishPoll, givePoll, drainTick,
    taskFuel, ready, State.reset, Agenda.idle, Agenda.push, drainPoll, pollStep, taskStep, Ctl.agenda,
    storePurchaseStep, callStep, h]

theorem test_game_exit : (after 0x2B0000 ready).gameState = .exit := by decide

theorem test_pin_config : (after 0x300000 State.reset).pinsConfigured = true := by decide

/-- 43_keypad_scanner R174, 44_game_loop R196. -/
theorem test_env :
    (after 0x400123 ready).key = ⟨0, 0, 8, 0⟩ ∧
    (after 0x400023 { ready with key := ⟨0, 0, 0xF, 0⟩ }).key = ⟨0, 0, 7, 0⟩ ∧
    (after 0x410001 ready).sw = true ∧ (after 0x410000 { ready with sw := true }).sw = false := by decide

/-- V-TICK-6: a firing between MUX_STEP and IRQ_ACK is lost. -/
theorem test_firing_inside_handler :
    (interruptTurn (takeTurn .timer { pending with tick := ⟨[.ack], 0⟩ })).tickPending = false := by decide

/-- V-RACE, G4: the glow stays dark. -/
theorem test_race_glow :
    glowOf (raceTrigger .glowTrigger 1 0 (withGlow (true, 1, true))) = (true, 3, false) ∧
    glowOf (raceTrigger .glowTrigger 0 3 (withGlow (true, 2, true))) = (true, 0, false) := by decide

/-- V-RACE, A3 and A4. -/
theorem test_race_alarm :
    alarmOf (raceTrigger .alarmTrigger 1 0 (withAlarm (true, 5, false))) = (true, 0, false) ∧
    alarmOf (raceTrigger .alarmTrigger 0 1 (withAlarm (true, 3, false))) = (true, 1, false) := by decide

/-- 90_conflicts, 42_display_mux R142: V-MUX-5. -/
theorem test_seg_read : segRead 9 = some 0x6F ∧ segRead 10 = none := by decide

/-! ## Witnesses: the hypotheses of the statements can be met -/

theorem witness_DecodeOfEncode :
    (Instr.storePurchase 2).wellFormed = true ∧ (Instr.entAdvance 1).wellFormed = true ∧
    (Instr.dvWrite 0xFFFF).wellFormed = true := by decide

theorem witness_EncodeOfDecode : decode 0x2A0002#24 = .ok (.storePurchase 2) := by decide

theorem witness_StepPerformsWord :
    { ready with script := [.word 0x1104D2#24, .word 0#24] }.script = .word 0x1104D2#24 :: [.word 0#24] ∧
    decode 0x1104D2#24 = .ok (.dvWrite 1234) ∧ Instr.keyScan.wellFormed = true := by decide

/-- No well-formed operation has OPN 9, so none encodes to the word 0x090000. -/
theorem witness_StepRefusesOtherWords :
    { ready with script := [.word 0x090000#24] }.script = .word 0x090000#24 :: [] ∧
    { ready with script := [.issue 0x090000#24] }.script = .issue 0x090000#24 :: [] ∧
    ∀ i : Instr, i.wellFormed = true → encode i ≠ 0x090000#24 := by
  refine ⟨rfl, rfl, fun i _ h => ?_⟩
  have ha : i.arg < 65536 := by
    cases i with
    | envKey l r c => have := Bool.toNat_le l; simp only [Instr.arg]; omega
    | envSw l => have := Bool.toNat_le l; simp only [Instr.arg]; omega
    | _ => simp only [Instr.arg]; omega
  have ho : i.opn < 256 ∧ i.opn ≠ 9 := by cases i <;> simp [Instr.opn]
  have := congrArg BitVec.toNat h
  simp only [encode, BitVec.toNat_ofNat] at this
  omega

theorem witness_StepTakesTurns :
    { ready with script := [.turn .interrupt] }.script = .turn .interrupt :: [] ∧
    { ready with script := [.issue 0x140000#24] }.script = .issue 0x140000#24 :: [] ∧
    decode 0x140000#24 = .ok .keyScan ∧ pollTask .keyScan = some .keyScan ∧ ready.script = [] := by decide

theorem ready_ready : Ready ready := ⟨rfl, rfl, rfl⟩

theorem pending_ready : Ready pending := ⟨rfl, rfl, rfl⟩

theorem witness_WholeIsTurns :
    (Unfaulted ready ∧ Unfaulted pending) ∧
    pollTask .menuIter = some .menuIter ∧ ready.poll = Agenda.idle ∧ ready.tick.todo = [] ∧
    pending.tick = Agenda.idle ∧ pending.tickPending = true ∧ Instr.menuIter.agent = .poll ∧
    Instr.muxStep.agent = .tick := ⟨⟨rfl, rfl⟩, by decide⟩

theorem witness_TmrFire :
    (Unfaulted ready ∧ Unfaulted pending ∧ Unfaulted State.reset) ∧ ready.tickRun = true ∧
    pending.tickRun = true ∧ pending.tickPending = true ∧ State.reset.tickRun = false :=
  ⟨⟨rfl, rfl, rfl⟩, by decide⟩

theorem witness_HandlerEntry :
    (Unfaulted pending ∧ pending.tick.todo = [] ∧ pending.tickPending = true) ∧
    (Unfaulted ready ∧ ready.tick.todo = [] ∧ ready.tickPending = false) ∧
    Unfaulted { pending with tick := ⟨[.ack], 0⟩ } ∧ { pending with tick := ⟨[.ack], 0⟩ }.tick.todo ≠ [] :=
  ⟨⟨rfl, by decide⟩, ⟨rfl, by decide⟩, rfl, by decide⟩

theorem witness_IrqAck : ∃ t : State,
    TickReady pending ∧ pending.tickPending = true ∧ exec .tickHandler pending = .next t ∧ Unfaulted t :=
  ⟨_, pending_ready.2, rfl, rfl, rfl⟩

theorem witness_PaceStep :
    (TickReady { ready with paceCount := 98 } ∧ 98 + 1 < Config.effectDiv) ∧
    (TickReady { ready with paceCount := 99 } ∧ Config.effectDiv ≤ 99 + 1) :=
  ⟨⟨⟨rfl, rfl⟩, by decide⟩, ⟨⟨rfl, rfl⟩, by decide⟩⟩

theorem witness_EffectTick : TickReady (withGlow (true, 1, true)) := ⟨rfl, rfl⟩

/-- The last legal and the first illegal DisplayValue. -/
theorem witness_TickHandler :
    (TickReady { pending with displayValue := 9999 } ∧ DisplayLegal { pending with displayValue := 9999 }) ∧
    (TickReady { pending with displayValue := 10000 } ∧
      ¬ DisplayLegal { pending with displayValue := 10000 }) :=
  ⟨⟨⟨rfl, rfl⟩, by unfold DisplayLegal; decide⟩, ⟨⟨rfl, rfl⟩, by unfold DisplayLegal; decide⟩⟩

theorem witness_BootOrder :
    (Ready ready ∧ ready.pinsConfigured = true) ∧
    (Ready State.reset ∧ State.reset.pinsConfigured = false) :=
  ⟨⟨ready_ready, rfl⟩, ⟨⟨rfl, rfl, rfl⟩, rfl⟩⟩

theorem witness_Triggers :
    Ready ready ∧ pending.tick.todo = [] ∧ pending.tickPending = true ∧
    Unfaulted { pending with poll := ⟨[.glowTrigger, .hazardCheck], 2⟩ } ∧
    { pending with poll := ⟨[.glowTrigger, .hazardCheck], 2⟩ }.poll = ⟨.glowTrigger :: [.hazardCheck], 2⟩ ∧
    { pending with poll := ⟨[.alarmTrigger], 2⟩ }.poll = ⟨.alarmTrigger :: [], 2⟩ :=
  ⟨ready_ready, rfl, rfl, rfl, rfl, rfl⟩

theorem witness_GlowStep :
    (TickReady ready ∧ ready.glowArmed = false) ∧
    (TickReady (withGlow (true, 1, true)) ∧ (withGlow (true, 1, true)).glowCount ≤ 1) ∧
    (TickReady (withGlow (true, 2, true)) ∧ 2 ≤ (withGlow (true, 2, true)).glowCount) :=
  ⟨⟨⟨rfl, rfl⟩, rfl⟩, ⟨⟨rfl, rfl⟩, by decide⟩, ⟨⟨rfl, rfl⟩, by decide⟩⟩

theorem witness_AlarmStep :
    (TickReady ready ∧ ready.alarmArmed = false) ∧
    (TickReady (withAlarm (true, 4, true)) ∧ 4 + 1 < Config.alarmBudget) ∧
    (TickReady (withAlarm (true, 5, false)) ∧ Config.alarmBudget ≤ 5 + 1) ∧
    (Unfaulted { withAlarm (true, 5, false) with tick := ⟨[.alarm, .mux], 0⟩ } ∧
      { withAlarm (true, 5, false) with tick := ⟨[.alarm, .mux], 0⟩ }.tick = ⟨.alarm :: [.mux], 0⟩) ∧
    (TickReady (withAlarm (true, 0, true)) ∧ (withAlarm (true, 0, true)).alarmCount = 0 ∧
      (withAlarm (true, 0, true)).alarmPin = true ∧ 6 ≤ Config.alarmBudget) :=
  ⟨⟨⟨rfl, rfl⟩, rfl⟩, ⟨⟨rfl, rfl⟩, by decide⟩, ⟨⟨rfl, rfl⟩, by decide⟩, ⟨rfl, rfl⟩, ⟨rfl, rfl⟩, rfl, rfl,
    by decide⟩

/-- Glow (1, 2, 1): p1 = 1, p2 = 2 keep the pin; p2 = 3 or p1 = 2 lose it. -/
theorem witness_TriggerRaces_glow :
    (Ready ready ∧ ready.glowArmed = false) ∧
    (Ready (withGlow (true, 2, true)) ∧ 1 ≤ (withGlow (true, 2, true)).glowCount ∧
      (1 < (withGlow (true, 2, true)).glowCount ∧ 2 < Config.glowDuration) ∧
      Config.glowDuration ≤ 3 ∧ (withGlow (true, 2, true)).glowCount ≤ 2) :=
  ⟨⟨ready_ready, rfl⟩, ⟨rfl, rfl, rfl⟩, by decide, ⟨by decide, by decide⟩, by decide, by decide⟩

/-- Alarm (1, 5, 0): p1 = 0, p2 = 5 stay Active; p2 = 6 ends the budget; p1 = 1 ends the old one. -/
theorem witness_TriggerRaces_alarm :
    (Ready ready ∧ ready.alarmArmed = false) ∧
    (Ready (withAlarm (true, 5, false)) ∧ (withAlarm (true, 5, false)).alarmCount < Config.alarmBudget ∧
      (0 < Config.alarmBudget - (withAlarm (true, 5, false)).alarmCount ∧ 5 < Config.alarmBudget) ∧
      Config.alarmBudget ≤ 6 ∧ Config.alarmBudget - (withAlarm (true, 5, false)).alarmCount ≤ 1) :=
  ⟨⟨ready_ready, rfl⟩, ⟨rfl, rfl, rfl⟩, by decide, ⟨by decide, by decide⟩, by decide, by decide⟩

theorem witness_BlinkOverTicks :
    TickReady { withGlow (true, 3, true) with paceCount := 99 } ∧
    DisplayLegal { withGlow (true, 3, true) with paceCount := 99 } ∧ ready.tickRun = true ∧
    ready.tickPending = false ∧ 99 < Config.effectDiv ∧ (withGlow (true, 3, true)).glowArmed = true ∧
    (withGlow (true, 3, true)).glowCount = Config.glowDuration ∧ (withGlow (true, 3, true)).glowPin = true ∧
    (withGlow (true, 3, true)).alarmArmed = false :=
  ⟨⟨rfl, rfl⟩, by unfold DisplayLegal; decide, rfl, rfl, by decide, rfl, rfl, rfl, rfl⟩

theorem witness_BlinkOverTicks_alarm :
    TickReady (withAlarm (true, 0, true)) ∧ DisplayLegal (withAlarm (true, 0, true)) ∧
    (withAlarm (true, 0, true)).alarmArmed = true ∧ (withAlarm (true, 0, true)).alarmCount = 0 ∧
    (withAlarm (true, 0, true)).alarmPin = true ∧ (withAlarm (true, 0, true)).glowArmed = false :=
  ⟨⟨rfl, rfl⟩, by unfold DisplayLegal; decide, rfl, rfl, rfl, rfl⟩

/-- An Alarm at its last toggle, and a step that runs ALARM_STEP on it. -/
theorem witness_BlinkInvKept : ∃ t : State,
    Unfaulted { withAlarm (true, 5, false) with script := [.word 0x060000#24] } ∧
    BlinkInv { withAlarm (true, 5, false) with script := [.word 0x060000#24] } ∧
    { withAlarm (true, 5, false) with script := [.word 0x060000#24] }.faults.wf ∧
    step { withAlarm (true, 5, false) with script := [.word 0x060000#24] } = .next t := by
  refine ⟨_, rfl, ⟨by decide, fun _ _ => rfl, fun h => absurd h (by decide), by decide, by decide, fun _ => by decide,
    fun h => absurd h.1 (by decide), fun _ => rfl⟩, ⟨List.Pairwise.nil, List.Pairwise.nil⟩, rfl⟩

/-- The anode of slot 3 is on and DigitSlot is 0; one MUX_STEP. -/
theorem witness_MuxInvKept : ∃ t : State,
    Unfaulted { ready with an := 8, script := [.word 0x070000#24] } ∧
    MuxInv { ready with an := 8, script := [.word 0x070000#24] } ∧
    step { ready with an := 8, script := [.word 0x070000#24] } = .next t :=
  ⟨_, rfl, .inr (by decide), rfl⟩

/-- In the middle of a scan, the next mover being free. -/
theorem witness_ScannerInvKept : ∃ t : State,
    ready.script = [] ∧ Unfaulted ready ∧
    ScannerInv { ready with
      row := 4, ksRow := 2, ksPhase := .sample, poll := ⟨[.scanSample, .scanRestore, .menuRoute], 0⟩ } ∧
    step { ready with
      row := 4, ksRow := 2, ksPhase := .sample, poll := ⟨[.scanSample, .scanRestore, .menuRoute], 0⟩ } =
        .next t :=
  ⟨_, rfl, rfl, ⟨by unfold NoRowTask; decide, by decide, rfl⟩, rfl⟩

/-- Held in the release-wait, the rows being those RELEASE_ROWS selects for the key. -/
theorem witness_ScannerInvKept_release : ∃ t : State,
    ready.script = [] ∧ Unfaulted ready ∧
    ScannerInv { ready with
      row := releaseSelect Config.releaseRows 2 0, ksHit := some (2, 3), ksPhase := .release,
      poll := ⟨[.releaseWait, .scanQuiet, .scanReturn, .menuRoute], 1⟩ } ∧
    step { ready with
      row := releaseSelect Config.releaseRows 2 0, ksHit := some (2, 3), ksPhase := .release,
      poll := ⟨[.releaseWait, .scanQuiet, .scanReturn, .menuRoute], 1⟩ } = .next t :=
  ⟨_, rfl, rfl, ⟨by unfold NoRowTask; decide, rfl, 2, 3, rfl, rfl⟩, rfl⟩

theorem witness_KeyReturned_result : ∃ t : State,
    Unfaulted { ready with keyResult := 0x33, script := [.word 0x070000#24] } ∧
    KeyResultLegal { ready with keyResult := 0x33, script := [.word 0x070000#24] } ∧
    step { ready with keyResult := 0x33, script := [.word 0x070000#24] } = .next t :=
  ⟨_, rfl, .inr ⟨3, 3, by decide⟩, rfl⟩

theorem witness_DvWrite : ∃ t u : State,
    Ready ready ∧ (9999#16).toNat ≤ Config.dvMax ∧ exec (.dvWrite 9999#16) ready = .next t ∧
    Config.dvMax < (10000#16).toNat ∧ exec (.dvWrite 10000#16) ready = .next u :=
  ⟨_, _, ready_ready, by decide, rfl, by decide, rfl⟩

theorem witness_MuxStep :
    Unfaulted { pending with displayValue := 9999, tick := ⟨[.mux, .ack], 1⟩ } ∧
    Unfaulted { pending with displayValue := 10000, tick := ⟨[.mux, .ack], 1⟩ } ∧
    DisplayLegal { pending with displayValue := 9999, tick := ⟨[.mux, .ack], 1⟩ } ∧
    ¬ DisplayLegal { pending with displayValue := 10000, tick := ⟨[.mux, .ack], 1⟩ } ∧
    { pending with tick := ⟨[.mux, .ack], 3⟩ }.tick = ⟨.mux :: [.ack], 3⟩ :=
  ⟨rfl, rfl, by unfold DisplayLegal; decide, by unfold DisplayLegal; decide, rfl⟩

theorem witness_OutOfRange :
    TickReady { pending with displayValue := 10000 } ∧ ¬ DisplayLegal { pending with displayValue := 10000 } ∧
    pending.tickPending = true := ⟨⟨rfl, rfl⟩, by unfold DisplayLegal; decide, rfl⟩

theorem witness_BlankBeforeChange :
    Unfaulted { pending with tick := ⟨[.mux, .ack], 1⟩ } ∧ MuxInv { pending with tick := ⟨[.mux, .ack], 1⟩ } ∧
    (takeTurn .interrupt { pending with tick := ⟨[.mux, .ack], 1⟩ }).seg ≠
      { pending with tick := ⟨[.mux, .ack], 1⟩ }.seg := ⟨rfl, rfl, by decide⟩

theorem witness_Digits :
    9999 ≤ Config.dvMax ∧ 9 * 1000 + 9 * 100 + 9 * 10 + 9 = 9999 ∧
    0 ≤ Config.dvMax ∧ 0 * 1000 + 0 * 100 + 0 * 10 + 0 = 0 := by decide

/-- The last slot and the largest legal value inside a MUX_STEP; the first digit without an entry. -/
theorem witness_Digits_mux : ∃ t : State,
    exec .muxStep { ready with displayValue := 9999, digitSlot := 3 } = .next t ∧ 10 ≤ 10 :=
  ⟨_, rfl, Nat.le_refl 10⟩

theorem witness_SlotCycle :
    TickReady { ready with displayValue := 9999, digitSlot := 3 } ∧
    DisplayLegal { ready with displayValue := 9999, digitSlot := 3 } ∧ ready.tickRun = true :=
  ⟨⟨rfl, rfl⟩, by unfold DisplayLegal; decide, rfl⟩

theorem witness_ColSample :
    Ready { ready with row := 4 } ∧ ready.row = 0 ∧
    bitAt { ready with row := 4, key := ⟨0, 0, 8, 0⟩ }.row 2 = true ∧
    keyAt { ready with row := 4, key := ⟨0, 0, 8, 0⟩ }.key 2 3 = true := ⟨⟨rfl, rfl, rfl⟩, by decide⟩

theorem witness_KeyScanNoKey : Ready ready ∧ ready.pinsConfigured = true ∧ NoKey ready :=
  ⟨ready_ready, rfl, by unfold NoKey; decide⟩

/-- Key (1, 0) with (1, 2) and (3, 1) also down (V-KEY-3), and the last key of the matrix alone. -/
theorem witness_KeyScanHit :
    Ready { ready with key := ⟨0, 5, 0, 2⟩ } ∧ ready.pinsConfigured = true ∧ ready.row = 0 ∧
    FirstKey ⟨0, 5, 0, 2⟩ 1 0 ∧ FirstKey ⟨0, 0, 0, 8⟩ 3 3 :=
  ⟨⟨rfl, rfl, rfl⟩, rfl, rfl, by unfold FirstKey; decide, by unfold FirstKey; decide⟩

/-- A round without a press, at the first and at the last row, and one with a press. -/
theorem witness_KeyScan_round :
    Unfaulted { ready with poll := ⟨[.scanRestore], 0⟩ } ∧ ready.tick.todo = [] ∧
    ({ ready with poll := ⟨[.scanRestore], 0⟩ }.poll = ⟨.scanRestore :: [], 0⟩ ∧ ready.colResult = 0 ∧
      ready.ksRow ≠ 3 ∧ { ready with ksRow := 3 }.ksRow = 3) ∧
    { ready with colResult := 0b1010 }.colResult ≠ 0 := ⟨rfl, by decide⟩

/-- The hold of a RELEASE_WAIT for key (2, 3). -/
def held : State :=
  { ready with
    row := 4, key := ⟨0, 0, 8, 0⟩, ksHit := some (2, 3), ksPhase := .release,
    poll := ⟨[.releaseWait, .scanQuiet, .scanReturn], 1⟩ }

theorem witness_KeyReturned :
    Unfaulted held ∧
    (held.tick.todo = [] ∧ held.ksHit = some (2, 3) ∧ { held with key := ⟨0, 0, 0, 0⟩ }.columns = 0 ∧
      held.poll = ⟨.releaseWait :: .scanQuiet :: .scanReturn :: [], 1⟩) ∧
    { held with poll := ⟨[.scanQuiet, .scanReturn], 0⟩ }.poll = ⟨.scanQuiet :: .scanReturn :: [], 0⟩ :=
  ⟨rfl, by decide⟩

theorem witness_HeldKeyBlocks :
    Unfaulted held ∧ Holding held ∧ ∀ (level : Bool) (r c : BitVec 2), Mover.interrupt ≠ .key level r c :=
  ⟨rfl, ⟨rfl, rfl, by decide⟩, by decide⟩

theorem witness_ReleaseWait :
    (Ready { ready with ksHit := some (2, 3) } ∧ { ready with ksHit := some (2, 3) }.ksHit = some (2, 3)) ∧
    Unfaulted held ∧
    (held.tick.todo = [] ∧ held.poll = ⟨.releaseWait :: [.scanQuiet, .scanReturn], 1⟩ ∧ held.columns ≠ 0) ∧
    { held with key := ⟨0, 0, 0, 0⟩ }.columns = 0 := ⟨⟨⟨rfl, rfl, rfl⟩, rfl⟩, rfl, by decide⟩

/-- A snapshot without a pressed key was seen, and the key is down again (contact bounce). -/
theorem witness_ReleaseWait_seen :
    Unfaulted { held with poll := ⟨[.releaseWait, .scanQuiet, .scanReturn], 2⟩ } ∧ held.tick.todo = [] ∧
    { held with poll := ⟨[.releaseWait, .scanQuiet, .scanReturn], 2⟩ }.poll =
      ⟨.releaseWait :: [.scanQuiet, .scanReturn], 2⟩ ∧
    { held with poll := ⟨[.releaseWait, .scanQuiet, .scanReturn], 2⟩ }.columns ≠ 0 := ⟨rfl, by decide⟩

theorem witness_KeyCodes : keyCode 3 3 = keyCode 3 3 ∧ kBack ∈ [kBuy 0, kBack] := ⟨rfl, by simp⟩

theorem witness_ScannerIndependence :
    Unfaulted ready ∧ (Mover.timer = .timer ∨ Mover.timer = .interrupt) ∧ rowTask .releaseWait = true ∧
    { ready with displayValue := 7, an := 4, glowPin := true }.row = ready.row := ⟨rfl, by decide⟩

theorem witness_AccessMatrix : ∃ t u : State,
    Unfaulted { ready with poll := ⟨[.alarmTrigger], 1⟩ } ∧
    pollStep { ready with poll := ⟨[.alarmTrigger], 1⟩ } = some t ∧
    Unfaulted { pending with tick := ⟨[.mux, .ack], 0⟩ } ∧
    tickStep { pending with tick := ⟨[.mux, .ack], 0⟩ } = some u := ⟨_, _, rfl, rfl, rfl, rfl⟩

/-- A state with BootOrder recorded. -/
def faulted : State := { ready with faults := ⟨[], [], true⟩ }

theorem witness_FaultsSticky : ∃ t u v w : State,
    pollStep { State.reset with poll := ⟨[.tickStart], 0⟩ } = some t ∧
    tickStep { pending with displayValue := 10000, tick := ⟨[.mux, .ack], 1⟩ } = some u ∧
    exec .pinConfig faulted = .next v ∧ Instr.pinConfig ≠ .reset ∧ faulted.faults.holds .bootOrder = true ∧
    exec .reset faulted = .next w := ⟨_, _, _, _, rfl, rfl, rfl, by decide, rfl, rfl⟩

/-- `ready` in Exit. -/
def exited : State := { ready with gameState := .exit }

theorem witness_Quiescence :
    Quiescent exited ∧ TickReady exited ∧ exited.poll = Agenda.idle ∧ Unfaulted (tickTimes 1 exited) ∧
    1 ≤ 1 ∧ exited.paceCount < Config.effectDiv :=
  ⟨⟨rfl, rfl, rfl, rfl, rfl⟩, ⟨rfl, rfl⟩, rfl, rfl, Nat.le_refl 1, by decide⟩

theorem witness_IterationsWithoutKey :
    (Ready { ready with currency := 2 ^ 32 - 1 } ∧ NoKey { ready with currency := 2 ^ 32 - 1 } ∧
      { ready with currency := 2 ^ 32 - 1 }.currency < 2 ^ dvWidth) ∧
    (Ready State.reset ∧ State.reset.pinsConfigured = false) :=
  ⟨⟨⟨rfl, rfl, rfl⟩, by unfold NoKey; decide, by decide⟩, ⟨⟨rfl, rfl, rfl⟩, rfl⟩⟩

theorem witness_IterationsWithKey :
    Ready { ready with key := ⟨1, 0, 0, 0⟩ } ∧ ready.pinsConfigured = true ∧ ready.row = 0 ∧
    FirstKey ⟨1, 0, 0, 0⟩ 0 0 ∧ ready.currency < 2 ^ dvWidth :=
  ⟨⟨rfl, rfl, rfl⟩, rfl, rfl, by unfold FirstKey; decide, by decide⟩

/-- Each key code of each state, and NOKEY, which is none of them. -/
theorem witness_KeyRoutes :
    ({ ready with poll := ⟨[.menuRoute], 0⟩, keyResult := kPlay }.keyResult = kPlay) ∧
    ({ ready with poll := ⟨[.menuRoute], 0⟩, keyResult := kExit }.keyResult = kExit) ∧
    ({ ready with poll := ⟨[.menuRoute], 0⟩, keyResult := kStore }.keyResult = kStore) ∧
    (Config.noKey ≠ kPlay ∧ Config.noKey ≠ kExit ∧ Config.noKey ≠ kStore) ∧
    ({ ready with poll := ⟨[.modeselRoute], 0⟩, keyResult := kTier 1 }.keyResult = kTier 1) ∧
    (Config.noKey ≠ kTier 0 ∧ Config.noKey ≠ kTier 1) ∧
    ({ ready with poll := ⟨[.storeRoute], 0⟩, keyResult := kBuy 2 }.keyResult = kBuy 2) ∧
    ({ ready with poll := ⟨[.storeRoute], 0⟩, keyResult := kBack }.keyResult = kBack) ∧
    ((∀ i : Fin 3, Config.noKey ≠ kBuy i) ∧ Config.noKey ≠ kBack) ∧
    ready.tick.todo = [] ∧ { ready with poll := ⟨[.storeRoute], 0⟩ }.poll = ⟨[.storeRoute], 0⟩ ∧
    Unfaulted { ready with poll := ⟨[.storeRoute], 0⟩, keyResult := kBack } :=
  ⟨rfl, rfl, rfl, ⟨noKey_ne_code _, noKey_ne_code _, noKey_ne_code _⟩, rfl, ⟨noKey_ne_code _, noKey_ne_code _⟩,
    rfl, rfl, ⟨fun _ => noKey_ne_code _, noKey_ne_code _⟩, rfl, rfl, rfl⟩

theorem witness_EntAdvance : Ready ready ∧ 1 ≤ 1 ∧ 1 ≤ 32 ∧ 32 ≤ 32 :=
  ⟨ready_ready, by decide, by decide, by decide⟩

theorem witness_CollectCheck :
    (Ready { ready with collect := ⟨.top, Config.playerCol⟩, currency := 2 ^ 32 - 2 } ∧
      { ready with collect := ⟨.top, Config.playerCol⟩, currency := 2 ^ 32 - 2 }.collect =
        ⟨ready.playerRow, Config.playerCol⟩ ∧ (2 ^ 32 - 2) + 1 < 2 ^ dvWidth) ∧
    (⟨.bottom, Config.playerCol⟩ : Pos) ≠ ⟨ready.playerRow, Config.playerCol⟩ :=
  ⟨⟨⟨rfl, rfl, rfl⟩, rfl, by decide⟩, fun h => absurd (congrArg Pos.row h) (by decide)⟩

/-- Between any two of the four actions a handler is pending, inside a PLAY_STEP too. -/
theorem witness_CollectCheck_between :
    Unfaulted pending ∧ pending.tick.todo = [] ∧ pending.tickPending = true ∧
    { pending with poll := ⟨[.dvCurrency, .call .audioPulse, .glowTrigger, .hazardCheck, .stepEnd], 0⟩ }.poll =
      ⟨.dvCurrency :: .call .audioPulse :: .glowTrigger :: [.hazardCheck, .stepEnd], 0⟩ ∧
    pending.currency < 2 ^ dvWidth := ⟨rfl, rfl, rfl, rfl, by decide⟩

theorem witness_HazardCheck :
    (Ready { ready with hazard := ⟨.top, Config.playerCol⟩ } ∧
      { ready with hazard := ⟨.top, Config.playerCol⟩ }.hazard = ⟨ready.playerRow, Config.playerCol⟩) ∧
    (⟨.bottom, Config.playerCol⟩ : Pos) ≠ ⟨ready.playerRow, Config.playerCol⟩ :=
  ⟨⟨⟨rfl, rfl, rfl⟩, rfl⟩, fun h => absurd (congrArg Pos.row h) (by decide)⟩

theorem witness_StorePurchase :
    Ready { ready with currency := Config.price 2 } ∧ Config.price 2 - Config.price 2 < 2 ^ dvWidth ∧
    ¬ Config.price 2 < Config.price 2 :=
  ⟨⟨rfl, rfl, rfl⟩, by simp, by simp⟩

/-! Statements whose one hypothesis is that the machine stands between two operations without a fault. -/

theorem witness_RowLines : Ready { ready with row := 0b0100 } := ⟨rfl, rfl, rfl⟩

theorem witness_NoStateChange : Ready { pending with row := 0b0100, an := 8 } := ⟨rfl, rfl, rfl⟩

theorem witness_GameBoot : Ready State.reset := ⟨rfl, rfl, rfl⟩

/-- Before GAME_BOOT, and after it in each GameState. -/
theorem witness_GameBoot_loop :
    Unfaulted ready ∧ (ready.tick.todo = [] ∧ ready.poll = Agenda.idle ∧ ready.booted = false ∧ ready.gameState ≠ .exit) ∧
    { ready with booted := true }.booted = true ∧ { ready with booted := true }.gameState = .menu ∧
    { ready with booted := true, gameState := .modeSelect }.gameState = .modeSelect ∧
    { ready with booted := true, gameState := .playing }.gameState = .playing ∧
    { ready with booted := true, gameState := .store }.gameState = .store ∧
    { ready with booted := true, gameState := .exit }.gameState = .exit := ⟨rfl, by decide⟩

theorem witness_PlayEnter : Ready { ready with gameState := .modeSelect, sw := true } := ⟨rfl, rfl, rfl⟩

theorem witness_SwEdge : Ready { ready with gameState := .playing, sw := true } := ⟨rfl, rfl, rfl⟩

theorem witness_PlayStep : Ready { ready with gameState := .playing } := ⟨rfl, rfl, rfl⟩

theorem witness_GameExit : Ready { pending with gameState := .menu } := ⟨rfl, rfl, rfl⟩

theorem witness_ModeReadAndPinConfig : Ready ready ∧ ready.pinsConfigured = true := ⟨ready_ready, rfl⟩

theorem witness_FreeValues :
    (Ready ready ∧ ready.ksHit = none) ∧
    (Ready { ready with collect := ⟨.top, Config.playerCol⟩, currency := 2 ^ 32 - 1 } ∧
      2 ^ dvWidth ≤ (2 ^ 32 - 1) + 1) ∧
    (Ready { ready with currency := 2 ^ 32 } ∧ NoKey { ready with currency := 2 ^ 32 } ∧
      2 ^ dvWidth ≤ 2 ^ 32) ∧
    (Ready { ready with currency := Config.price 2 + 2 ^ 32 } ∧
      Config.price 2 ≤ Config.price 2 + 2 ^ 32 ∧ 2 ^ dvWidth ≤ Config.price 2 + 2 ^ 32 - Config.price 2) :=
  ⟨⟨ready_ready, rfl⟩, ⟨⟨rfl, rfl, rfl⟩, by decide⟩, ⟨⟨rfl, rfl, rfl⟩, by unfold NoKey; decide, by decide⟩,
    ⟨rfl, rfl, rfl⟩, by simp, by rw [Nat.add_sub_cancel_left]⟩

/-- Currency 9999 collected (V-CUR-1), one above it shown in Menu, and one left above it by a purchase. -/
theorem witness_FreeValues_range :
    (Ready { ready with collect := ⟨.top, Config.playerCol⟩, currency := 9999 } ∧
      { ready with collect := ⟨.top, Config.playerCol⟩ }.collect = ⟨ready.playerRow, Config.playerCol⟩ ∧
      Config.dvMax < 9999 + 1) ∧
    (Ready { ready with currency := 10000 } ∧ ready.pinsConfigured = true ∧
      NoKey { ready with currency := 10000 } ∧ Config.dvMax < 10000) ∧
    (Ready { ready with currency := Config.price 2 + 10000 } ∧
      Config.price 2 + Config.dvMax < Config.price 2 + 10000) ∧ Config.dvMax < (10000#dvWidth).toNat :=
  ⟨⟨⟨rfl, rfl, rfl⟩, rfl, by decide⟩, ⟨⟨rfl, rfl, rfl⟩, rfl, by unfold NoKey; decide, by decide⟩,
    ⟨⟨rfl, rfl, rfl⟩, Nat.add_lt_add_left (by decide) _⟩, by decide⟩

/-- The least and the greatest word that stand for a Currency too large for the word, and the first again. -/
theorem test_overflow_word :
    overflowWord 0 = 10000#32 ∧ overflowWord (2 ^ 32 - 10001) = 0xFFFFFFFF#32 ∧
    overflowWord (2 ^ 32 - 10000) = 10000#32 := by decide

theorem witness_OnlyIllegalOperandsStop :
    (Instr.entAdvance 2).wellFormed = false ∧ (Instr.entAdvance 3).wellFormed = false ∧
    (Instr.storePurchase 3).wellFormed = false ∧ (Instr.storePurchase 2).wellFormed = true := by decide

theorem witness_EndsIdleOrHolding : ∃ t : State,
    Unfaulted { ready with key := ⟨0, 0, 0, 8⟩ } ∧ Instr.keyScan.agent = .poll ∧ ready.poll = Agenda.idle ∧
    exec .keyScan { ready with key := ⟨0, 0, 0, 8⟩ } = .next t := ⟨_, rfl, rfl, rfl, rfl⟩

end Sys2Proof.Tests
end

namespace Sys2Proof.Machine

/-! ## IRQ_ACK (40_tick_source R105) -/

/-- MUX_STEP on a DisplayValue out of range leaves its fault in the record (42_display_mux R146). -/
theorem not_unfaulted_muxFaulted (s : State) : ¬ Unfaulted (muxFaulted s) :=
  add_ne_empty s.faults (.displayRange s.displayValue.toNat)

theorem exec_irqAck {s : State} (ht : s.tick = Agenda.idle) :
    exec .irqAck s = .next { s with tickPending := false } :=
  congrArg Host.Outcome.next (performTick_ack ht)

/-- A handler that records no fault had a legal DisplayValue, so it came to its IRQ_ACK. -/
theorem performHandler_clears_tickPending {s : State} (ht : s.tick = Agenda.idle)
    (hp : s.tickPending = true) (hu : Unfaulted (performHandler s)) :
    (performHandler s).tickPending = false := by
  by_cases hd : DisplayLegal s
  · rw [performHandler_legal ht hp hd]
  · rw [performHandler_fault ht hp hd] at hu
    exact absurd hu (not_unfaulted_muxFaulted _)

/-- Settles O11, by the two ways a handler performed whole can end: with IRQ_ACK, or with MUX_STEP's fault. -/
theorem irqAck : Obligations.IrqAck := by
  refine ⟨by decide, fun s ⟨ht, _⟩ => exec_irqAck ht, fun s t ⟨ht, _⟩ hp he hu => ?_⟩
  have hs : performHandler s = t := Host.Outcome.next.inj he
  rw [← hs] at hu ⊢
  exact performHandler_clears_tickPending ht hp hu

end Sys2Proof.Machine

namespace Sys2Proof.Machine

/-! ## The polling context's first task, one micro-step at a time -/

theorem performPoll_eq_finishPoll {t : Task} {s : State} (ht : s.tick = Agenda.idle)
    (hp : s.poll = Agenda.idle) : performPoll t s = finishPoll { s with poll := ⟨[t], 0⟩ } :=
  performPoll_ready ht hp

/-- A turn of the polling context between two handlers is its next micro-step. -/
theorem pollingTurn_of_pollStep {s s' : State} (ht : s.tick.todo = []) (h : pollStep s = some s') :
    pollingTurn s = s' := by
  obtain ⟨t, rest, -, hp, -, -⟩ := pollStep_cases h
  simp [pollingTurn, ht, hp, h]

/-- A turn of the interrupt context between two handlers enters one while a tick is pending (60_exceptions R226). -/
theorem interruptTurn_pending {s : State} (ht : s.tick.todo = []) (hp : s.tickPending = true) :
    interruptTurn s = enterHandler s := by
  simp [interruptTurn, ht, hp]

section

variable {t : Task} {rest : List Task} {k : Nat} {s u : State} {c : Ctl Task} {a : Agenda Task}
  (hp : s.poll = ⟨t :: rest, k⟩) (h : taskStep t k s = (u, c)) (ha : c.agenda t rest k = some a)

include hp h ha

theorem pollStep_of_taskStep : pollStep s = some { u with poll := a } := by
  simp [pollStep, hp, h, ha]

theorem finishPoll_of_taskStep : finishPoll s = finishPoll { u with poll := a } :=
  finishPoll_step (pollStep_of_taskStep hp h ha)

theorem pollingTurn_of_taskStep (ht : s.tick.todo = []) : pollingTurn s = { u with poll := a } :=
  pollingTurn_of_pollStep ht (pollStep_of_taskStep hp h ha)

end

/-! ## The triggers performed whole (41_blink_effects R121, R124) -/

section

variable {s : State} (ht : s.tick = Agenda.idle) (hp : s.poll = Agenda.idle)

include ht hp

/-- A task of three micro-steps, performed whole, makes its three changes in turn and leaves the context idle. -/
theorem performPoll_of_three_stages {t : Task} {u v w : State}
    (h0 : taskStep t 0 { s with poll := ⟨[t], 0⟩ } = (u, .again))
    (h1 : taskStep t 1 { u with poll := ⟨[t], 1⟩ } = (v, .again))
    (h2 : taskStep t 2 { v with poll := ⟨[t], 2⟩ } = (w, .done)) :
    performPoll t s = { w with poll := Agenda.idle } := by
  rw [performPoll_eq_finishPoll ht hp, finishPoll_of_taskStep rfl h0 rfl, finishPoll_of_taskStep rfl h1 rfl,
    finishPoll_of_taskStep rfl h2 rfl, finishPoll_none rfl]
  rfl

theorem exec_glowTrigger : exec .glowTrigger s =
    .next { s with glowPin := true, glowCount := Config.glowDuration, glowArmed := true } := by
  have whole := performPoll_of_three_stages ht hp (t := .glowTrigger)
    (u := { s with glowPin := true, poll := ⟨[.glowTrigger], 0⟩ })
    (v := { s with glowPin := true, glowCount := Config.glowDuration, poll := ⟨[.glowTrigger], 1⟩ })
    (w := { s with
      glowPin := true, glowCount := Config.glowDuration, glowArmed := true, poll := ⟨[.glowTrigger], 2⟩ })
    rfl rfl rfl
  rw [← hp] at whole
  exact congrArg Host.Outcome.next whole

theorem exec_alarmTrigger : exec .alarmTrigger s =
    .next { s with alarmPin := true, alarmCount := 0, alarmArmed := true } := by
  have whole := performPoll_of_three_stages ht hp (t := .alarmTrigger)
    (u := { s with alarmPin := true, poll := ⟨[.alarmTrigger], 0⟩ })
    (v := { s with alarmPin := true, alarmCount := 0, poll := ⟨[.alarmTrigger], 1⟩ })
    (w := { s with
      alarmPin := true, alarmCount := 0, alarmArmed := true, poll := ⟨[.alarmTrigger], 2⟩ })
    rfl rfl rfl
  rw [← hp] at whole
  exact congrArg Host.Outcome.next whole

end

/-! ## GLOW_STEP's three cases (41_blink_effects R122) -/

theorem exec_glowStep {s : State} (ht : s.tick = Agenda.idle) : exec .glowStep s = .next (glowed s) :=
  congrArg Host.Outcome.next (performTick_glow ht)

theorem glowed_disarmed {s : State} (h : s.glowArmed = false) : glowed s = s := by
  simp [glowed, h]

theorem glowed_expires {s : State} (h : s.glowArmed = true) (hc : s.glowCount ≤ 1) :
    glowed s = { s with glowCount := 0, glowPin := false, glowArmed := false } := by
  simp [glowed, h, hc]

theorem glowed_counts {s : State} (h : s.glowArmed = true) (hc : 2 ≤ s.glowCount) :
    glowed s = { s with glowCount := s.glowCount - 1 } := by
  simp [glowed, h, Nat.not_le.mpr hc]

end Sys2Proof.Machine

namespace Sys2Proof.BlinkEffects

open Sys2Proof.Machine

/-- Settles O16: each stage of a trigger is one `taskStep`, alone or with more tasks behind it, and a trigger
performed whole is its three stages in turn. -/
theorem triggers : Obligations.Triggers := by
  refine ⟨by decide, by decide, fun s ⟨hp, ht, _⟩ => ⟨exec_glowTrigger ht hp, exec_alarmTrigger ht hp⟩,
    fun s rest _ ht => ⟨?_, ?_, ?_, ?_, ?_, ?_, interruptTurn_pending ht⟩⟩
  all_goals exact fun hp => pollingTurn_of_taskStep hp rfl rfl ht

/-- Settles O17, by the three cases of the step: disarmed, at its last count, above it. -/
theorem glowStep : Obligations.GlowStep := by
  refine ⟨by decide, fun s ⟨ht, _⟩ h => ?_, fun s ⟨ht, _⟩ h hc => ?_, fun s ⟨ht, _⟩ h hc => ?_⟩
  · rw [exec_glowStep ht, glowed_disarmed h]
  · rw [exec_glowStep ht, glowed_expires h hc]
  · rw [exec_glowStep ht, glowed_counts h hc]

end Sys2Proof.BlinkEffects

namespace Sys2Proof.Machine

/-! ## DV_WRITE (42_display_mux R140) -/

section

variable {s : State} (ht : s.tick = Agenda.idle) (hp : s.poll = Agenda.idle)

include ht hp

/-- A task of one micro-step, performed whole, makes its change and leaves the context idle. -/
theorem performPoll_of_one_stage {t : Task} {u : State}
    (h : taskStep t 0 { s with poll := ⟨[t], 0⟩ } = (u, .done)) :
    performPoll t s = { u with poll := Agenda.idle } := by
  rw [performPoll_eq_finishPoll ht hp, finishPoll_of_taskStep rfl h rfl, finishPoll_none rfl]
  rfl

theorem exec_dvWrite (v : BitVec 16) :
    exec (.dvWrite v) s = .next { s with displayValue := v.setWidth dvWidth } := by
  have whole := performPoll_of_one_stage ht hp (t := .dvWrite v) rfl
  rw [← hp] at whole
  exact congrArg Host.Outcome.next whole

/-- Given to an idle context, DV_WRITE is over after one micro-step. -/
theorem pollingTurn_givePoll_dvWrite (v : BitVec 16) :
    pollingTurn (givePoll (.dvWrite v) s) = { s with displayValue := v.setWidth dvWidth } := by
  have given : (givePoll (.dvWrite v) s).poll = ⟨[.dvWrite v], 0⟩ := by
    rw [givePoll_poll, hp]; rfl
  have turn := pollingTurn_of_taskStep given rfl rfl (by rw [givePoll_tick, ht]; rfl)
  rw [← show s.poll = ⟨[], 0⟩ from hp] at turn
  exact turn

end

/-- Zero extension to the word keeps the value. -/
theorem toNat_dvWord (v : BitVec 16) : (v.setWidth dvWidth).toNat = v.toNat :=
  BitVec.toNat_setWidth_of_le (by decide)

theorem encode_dvWrite (v : BitVec 16) : encode (.dvWrite v) = 0x110000#24 + v.setWidth 24 := by
  rw [encode, Instr.opn, Instr.arg, BitVec.ofNat_add, BitVec.ofNat_toNat]

/-! ## MUX_STEP performed whole (42_display_mux R143, R146) -/

theorem exec_muxStep_legal {s : State} (ht : s.tick = Agenda.idle) (h : DisplayLegal s) :
    exec .muxStep s = .next (muxed s) :=
  congrArg Host.Outcome.next (performTick_mux ht h)

theorem exec_muxStep_fault {s : State} (ht : s.tick = Agenda.idle) (h : ¬ DisplayLegal s) :
    exec .muxStep s = .next (muxFaulted s) :=
  congrArg Host.Outcome.next (performTick_mux_fault ht h)

theorem muxFaulted_holds (s : State) :
    (muxFaulted s).faults.holds (.displayRange s.displayValue.toNat) = true := by
  simp [muxFaulted, holds_add]

/-! ## PACE_STEP and the display -/

/-- PACE_STEP changes nothing but PaceCount and the cells of the two blink effects. -/
theorem paced_frame (s : State) : paced s = { s with
    paceCount := (paced s).paceCount,
    glowArmed := (paced s).glowArmed, glowCount := (paced s).glowCount, glowPin := (paced s).glowPin,
    alarmArmed := (paced s).alarmArmed, alarmCount := (paced s).alarmCount,
    alarmPin := (paced s).alarmPin } := by
  unfold paced alarmed glowed
  (repeat' split) <;> rfl

@[simp] theorem paced_displayValue (s : State) : (paced s).displayValue = s.displayValue := by
  rw [paced_frame]

@[simp] theorem paced_seg (s : State) : (paced s).seg = s.seg := by rw [paced_frame]

@[simp] theorem paced_digitSlot (s : State) : (paced s).digitSlot = s.digitSlot := by
  rw [paced_frame]

@[simp] theorem paced_tickPending (s : State) : (paced s).tickPending = s.tickPending := by
  rw [paced_frame]

end Sys2Proof.Machine

namespace Sys2Proof.DisplayMux

open Sys2Proof.Machine

/-- Settles O25: the write is one `taskStep`, and MUX_STEP then branches on the very value written. -/
theorem dvWrite : Obligations.DvWrite := by
  refine fun v => ⟨encode_dvWrite v,
    fun s ⟨hp, ht, _⟩ => ⟨exec_dvWrite ht hp v, pollingTurn_givePoll_dvWrite ht hp v⟩,
    fun s t ⟨hp, ht, _⟩ hv he => ?_, fun s t ⟨hp, ht, _⟩ hv he => ?_⟩
  all_goals
    rw [exec_dvWrite ht hp] at he
    obtain rfl := Host.Outcome.next.inj he
  · have legal : DisplayLegal { s with displayValue := v.setWidth dvWidth } :=
      (toNat_dvWord v).trans_le hv
    have shown := segRead_digit legal
    rw [toNat_dvWord] at shown
    exact ⟨_, exec_muxStep_legal ht legal, shown⟩
  · have illegal : ¬ DisplayLegal { s with displayValue := v.setWidth dvWidth } :=
      Nat.not_le.mpr (hv.trans_eq (toNat_dvWord v).symm)
    have held := muxFaulted_holds { s with displayValue := v.setWidth dvWidth }
    rw [toNat_dvWord] at held
    exact ⟨_, exec_muxStep_fault ht illegal, held⟩

/-- Settles O27: MUX_STEP's fault, and the same fault behind the handler's PACE_STEP, which leaves the display and
TickPending as they were. -/
theorem outOfRange : Obligations.OutOfRange := by
  refine fun s ⟨ht, _⟩ illegal => ⟨exec_muxStep_fault ht illegal, fun hp => ?_⟩
  have ended : exec .tickHandler s = .next (muxFaulted (paced s)) :=
    congrArg Host.Outcome.next (performHandler_fault ht hp illegal)
  have held := muxFaulted_holds (paced s)
  rw [paced_displayValue] at held
  exact ⟨_, ended, held, not_unfaulted_muxFaulted _, rfl, paced_seg s, paced_digitSlot s,
    (paced_tickPending s).trans hp⟩

end Sys2Proof.DisplayMux

namespace Sys2Proof.Machine

/-! ## The tick side and the scanner are apart (43_keypad_scanner, section 4) -/

/-- `s` with the scanner's fields, the keypad lines, the keys and the polling context's place taken from `u`. -/
def withScannerOf (u s : State) : State :=
  { s with
    row := u.row, ksPhase := u.ksPhase, ksRow := u.ksRow, ksHit := u.ksHit, key := u.key,
    keyResult := u.keyResult, colResult := u.colResult, poll := u.poll }

theorem muxPattern_withScannerOf (u s : State) :
    muxPattern (withScannerOf u s) = (muxPattern s).map (withScannerOf u) id := by
  by_cases illegal : outOfRange s.displayValue = true
  · simp [muxPattern, withScannerOf, raise, illegal]
  · cases h : segRead (digit s.displayValue.toNat s.digitSlot) <;>
      simp [muxPattern, withScannerOf, raise, illegal, h]

/-- A micro-step of the handler neither reads nor writes the scanner's side of the state. -/
theorem tickTaskStep_withScannerOf (t : TickTask) (k : Nat) (u s : State) :
    tickTaskStep t k (withScannerOf u s) = (tickTaskStep t k s).map (withScannerOf u) id := by
  cases t with
  | pace =>
    by_cases due : effectTickDue s.paceCount = true <;>
      simp [tickTaskStep, paceStep, withScannerOf, due]
  | effect => rfl
  | glow =>
    by_cases armed : s.glowArmed = true
    · by_cases last : glowCountDown s.glowCount = 0 <;>
        simp [tickTaskStep, glowStep, withScannerOf, armed, last]
    · simp [tickTaskStep, glowStep, withScannerOf, armed]
  | alarm =>
    match k with
    | 0 => by_cases armed : s.alarmArmed = true <;> simp [tickTaskStep, alarmStep, withScannerOf, armed]
    | _ + 1 =>
      by_cases last : alarmBudgetReached (s.alarmCount + 1) = true <;>
        simp [tickTaskStep, alarmStep, withScannerOf, last]
  | mux =>
    match k with
    | 1 => exact muxPattern_withScannerOf u s
    | 0 | 2 | _ + 3 => rfl
  | ack => rfl

theorem tickStep_withScannerOf (u s : State) :
    tickStep (withScannerOf u s) = (tickStep s).map (withScannerOf u) := by
  have same : (withScannerOf u s).tick = s.tick := rfl
  cases ht : s.tick.todo with
  | nil => simp only [tickStep, same, ht, Option.map_none]
  | cons t rest =>
    obtain ⟨a, ha, -⟩ := tickTask_agenda t rest s.tick.stage s
    simp only [tickStep, same, ht, tickTaskStep_withScannerOf, Prod.map_fst, Prod.map_snd, id, ha,
      Option.map_some]
    rfl

theorem interruptTurn_withScannerOf (u s : State) :
    interruptTurn (withScannerOf u s) = withScannerOf u (interruptTurn s) := by
  have same : (withScannerOf u s).tick = s.tick := rfl
  cases ht : s.tick.todo with
  | nil =>
    by_cases pending : s.tickPending = true <;>
      simp [interruptTurn, enterHandler, withScannerOf, ht, pending]
  | cons t rest =>
    obtain ⟨s', hs, -⟩ := tickStep_progress ht
    simp only [interruptTurn, same, ht, tickStep_withScannerOf, hs, Option.map_some, Option.getD_some]

/-- A turn of the timer or of the interrupt context neither reads nor writes the scanner's side of the state. -/
theorem takeTurn_withScannerOf {m : Mover} (h : m = .timer ∨ m = .interrupt) (u s : State) :
    takeTurn m (withScannerOf u s) = withScannerOf u (takeTurn m s) := by
  rcases h with rfl | rfl
  · rfl
  · exact interruptTurn_withScannerOf u s

/-- It leaves the scanner's side as it was, `s` being `s` with its own. -/
theorem takeTurn_eq_withScannerOf {m : Mover} (h : m = .timer ∨ m = .interrupt) (s : State) :
    takeTurn m s = withScannerOf s (takeTurn m s) :=
  takeTurn_withScannerOf h s s

theorem takeTurn_setPoll {m : Mover} (h : m = .timer ∨ m = .interrupt) (s : State) (a : Agenda Task) :
    takeTurn m { s with poll := a } = { takeTurn m s with poll := a } := by
  rw [takeTurn_eq_withScannerOf h s]
  exact takeTurn_withScannerOf h { s with poll := a } s

/-! ## The hold of a release-wait (43_keypad_scanner R168, R171) -/

theorem taskStep_await_held {s : State} (h : s.columns ≠ 0) : taskStep .releaseWait 1 s = (s, .hold) :=
  if_neg h

theorem pollStep_of_holding {s : State} (h : Holding s) : pollStep s = none := by
  obtain ⟨hd, hk, hc⟩ := h
  obtain ⟨rest, hp⟩ := List.head?_eq_some_iff.mp hd
  simp [pollStep, hp, hk, taskStep_await_held hc, Ctl.agenda]

theorem pollingTurn_of_holding {s : State} (h : Holding s) : pollingTurn s = s := by
  have stuck := pollStep_of_holding h
  obtain ⟨hd, -, -⟩ := h
  obtain ⟨rest, hp⟩ := List.head?_eq_some_iff.mp hd
  cases ht : s.tick.todo with
  | nil => simp [pollingTurn, ht, hp, stuck]
  | cons t ts => simp [pollingTurn, ht]

/-- Only a move of a key ends a hold: no other turn touches the columns or the polling context's place. -/
theorem holding_takeTurn {m : Mover} {s : State} (h : Holding s)
    (hm : ∀ (level : Bool) (r c : BitVec 2), m ≠ .key level r c) : Holding (takeTurn m s) := by
  cases m with
  | timer => rw [takeTurn_eq_withScannerOf (.inl rfl)]; exact h
  | interrupt => rw [takeTurn_eq_withScannerOf (.inr rfl)]; exact h
  | polling => rw [takeTurn, pollingTurn_of_holding h]; exact h
  | key level r c => exact absurd rfl (hm level r c)
  | switch level => exact h

/-! ## The environment's moves (43_keypad_scanner R174, 44_game_loop R196) -/

theorem encode_envKey (level : Bool) (r c : BitVec 2) :
    encode (.envKey level r c) =
      0x400000#24 + ((BitVec.ofBool level).setWidth 24 <<< 8) + (r.setWidth 24 <<< 4) + c.setWidth 24 := by
  revert level r c; decide

theorem encode_envSw (level : Bool) :
    encode (.envSw level) = 0x410000#24 + (BitVec.ofBool level).setWidth 24 := by
  revert level; decide

end Sys2Proof.Machine

namespace Sys2Proof.KeypadScanner

open Sys2Proof.Machine

/-- Settles O37: an unmet await takes no micro-step, and the tick side and the polling context's place are
independent of each other. -/
theorem heldKeyBlocks : Obligations.HeldKeyBlocks :=
  fun s _ held => ⟨pollingTurn_of_holding held, fun _ => holding_takeTurn held,
    fun a => ⟨takeTurn_setPoll (.inl rfl) s a, takeTurn_setPoll (.inr rfl) s a⟩⟩

/-- Settles O39: the moves are the state updates `setKey` and `setSwitch`, alone and as a turn. -/
theorem envMoves : Obligations.EnvMoves :=
  ⟨encode_envKey, encode_envSw,
    fun s level r c => ⟨setKey level r c s, rfl, rfl, rfl, fun r' c' => keyAt_setKeyAt s.key r c r' c' level⟩,
    fun _ _ => ⟨rfl, rfl⟩⟩

end Sys2Proof.KeypadScanner

namespace Sys2Proof.Machine

/-! ## Tasks of the polling context performed whole, whatever stands behind them -/

/-- No task reads or writes the polling context's own place. -/
theorem taskStep_setPoll (t : Task) (k : Nat) (s : State) (a : Agenda Task) :
    taskStep t k { s with poll := a } =
      ({ (taskStep t k s).1 with poll := a }, (taskStep t k s).2) := by
  cases t with
  | tickStart | keyScan | dvCurrency | collectCheck | hazardCheck | storePurchase =>
    simp only [taskStep, tickStartStep, keyScanStep, dvCurrencyStep, writeDisplayCurrency, collectCheckStep,
      hazardCheckStep, storePurchaseStep]
    split <;> rfl
  | scanRestore | menuRoute | modeselRoute | storeRoute =>
    simp only [taskStep, scanRestoreStep, setRow, menuRouteStep, modeselRouteStep, storeRouteStep]
    (repeat' split) <;> rfl
  | scanReturn | stepEnd =>
    simp only [taskStep, scanReturnStep, stepEndStep]
    split <;> rfl
  | entAdvance e => cases e <;> rfl
  | glowTrigger | alarmTrigger =>
    match k with
    | 0 | 1 | _ + 2 => rfl
  | releaseWait =>
    match k with
    | 0 =>
      simp only [taskStep, releaseWaitStep, selectReleaseRows]
      split <;> rfl
    | 1 =>
      by_cases seen : s.columns = 0
      · rw [show taskStep .releaseWait 1 s = _ from if_pos seen]
        exact if_pos seen
      · rw [show taskStep .releaseWait 1 s = _ from if_neg seen]
        exact if_neg seen
    | _ + 2 => rfl
  | _ => rfl

theorem taskStep_poll (t : Task) (k : Nat) (s : State) : (taskStep t k s).1.poll = s.poll :=
  congrArg (fun x => x.1.poll) (taskStep_setPoll t k s s.poll)

/-- The tasks `ts`, begun in `s` and worked off with no fault and no hold, leave `u` and then what stands behind
them; neither context's place is part of what they change. -/
structure Performs (ts : List Task) (s u : State) : Prop where
  poll : u.poll = s.poll
  tick : u.tick = s.tick
  finish : ∀ rest : List Task,
    finishPoll { s with poll := ⟨ts ++ rest, 0⟩ } = finishPoll { u with poll := ⟨rest, 0⟩ }

section

variable {t : Task} {ts us : List Task} {s u v w : State}

theorem Performs.append (h : Performs ts s u) (h' : Performs us u v) : Performs (ts ++ us) s v :=
  ⟨h'.poll.trans h.poll, h'.tick.trans h.tick, fun rest => by
    rw [List.append_assoc, h.finish, h'.finish]⟩

theorem Performs.cons (h : Performs [t] s u) (h' : Performs us u v) : Performs (t :: us) s v :=
  h.append h'

/-- One micro-step of a task with more tasks behind it. -/
theorem finishPoll_cons {k : Nat} {c : Ctl Task} {a : Agenda Task} {rest : List Task}
    (h : taskStep t k s = (u, c)) (ha : c.agenda t rest k = some a) :
    finishPoll { s with poll := ⟨t :: rest, k⟩ } = finishPoll { u with poll := a } := by
  have step := taskStep_setPoll t k s ⟨t :: rest, k⟩
  rw [h] at step
  exact (finishPoll_of_taskStep rfl step ha :)

theorem taskStep_keeps {k : Nat} {c : Ctl Task} (h : taskStep t k s = (u, c)) :
    u.poll = s.poll ∧ u.tick = s.tick := by
  have poll := taskStep_poll t k s
  have tick := taskStep_tick t k s
  rw [h] at poll tick
  exact ⟨poll, tick⟩

theorem performs_of_done (h : taskStep t 0 s = (u, .done)) : Performs [t] s u :=
  have ⟨poll, tick⟩ := taskStep_keeps h
  ⟨poll, tick, fun _ => finishPoll_cons h rfl⟩

/-- A composite is performed by performing its parts. -/
theorem performs_of_into (h : taskStep t 0 s = (u, .into ts)) (parts : Performs ts u v) :
    Performs [t] s v :=
  have ⟨poll, tick⟩ := taskStep_keeps h
  ⟨parts.poll.trans poll, parts.tick.trans tick, fun rest =>
    (finishPoll_cons h rfl).trans (parts.finish rest)⟩

theorem performs_of_three_stages (h0 : taskStep t 0 s = (u, .again)) (h1 : taskStep t 1 u = (v, .again))
    (h2 : taskStep t 2 v = (w, .done)) : Performs [t] s w :=
  have ⟨poll0, tick0⟩ := taskStep_keeps h0
  have ⟨poll1, tick1⟩ := taskStep_keeps h1
  have ⟨poll2, tick2⟩ := taskStep_keeps h2
  ⟨poll2.trans (poll1.trans poll0), tick2.trans (tick1.trans tick0), fun _ =>
    (finishPoll_cons h0 rfl).trans ((finishPoll_cons h1 rfl).trans (finishPoll_cons h2 rfl))⟩

theorem performs_call (c : Collab) (s : State) : Performs [.call c] s s := performs_of_done rfl

theorem performs_delay (d : Delay) (s : State) : Performs [.delay d] s s := performs_of_done rfl

/-- Neither context is in the middle of an operation. -/
def BetweenOps (s : State) : Prop := s.poll = Agenda.idle ∧ s.tick = Agenda.idle

theorem Ready.betweenOps (h : Ready s) : BetweenOps s :=
  have ⟨poll, tick, _⟩ := h
  ⟨poll, tick⟩

theorem Performs.betweenOps (h : Performs ts s u) (hs : BetweenOps s) : BetweenOps u :=
  have ⟨poll, tick⟩ := hs
  ⟨h.poll.trans poll, h.tick.trans tick⟩

/-- Given to a context between two operations, such a task is the whole of what is done. -/
theorem performPoll_of_performs (hs : BetweenOps s) (h : Performs [t] s u) : performPoll t s = u := by
  obtain ⟨poll, tick⟩ := hs
  have ended : u.poll = ⟨[], 0⟩ := h.poll.trans poll
  rw [performPoll_eq_finishPoll tick poll]
  refine (h.finish []).trans ?_
  rw [finishPoll_none rfl, ← ended]

theorem exec_of_performs {i : Instr} (run : exec i s = .next (performPoll t s)) (hs : BetweenOps s)
    (h : Performs [t] s u) : exec i s = .next u := by
  rw [run, performPoll_of_performs hs h]

end

/-! ## ENT_ADVANCE (44_game_loop R187) -/

/-- A cell's number on the entities' round of 32 cells: the top row's columns, then the bottom row's. -/
def cellNumber (p : Pos) : ZMod 32 :=
  match p.row with
  | .top => p.col.toNat
  | .bottom => p.col.toNat + 16

theorem cellNumber_injective : Function.Injective cellNumber := by
  have cols : ∀ c d : BitVec 4, ((c.toNat : ZMod 32) = d.toNat → c = d) ∧
      (c.toNat : ZMod 32) ≠ d.toNat + 16 := by decide
  rintro ⟨r, c⟩ ⟨r', c'⟩ same
  cases r <;> cases r'
  · rw [(cols c c').1 same]
  · exact absurd same (cols c c').2
  · exact absurd same.symm (cols c' c).2
  · rw [(cols c c').1 (add_right_cancel same)]

/-- An advance is one cell back on the round, over both wraps. -/
theorem cellNumber_advancePos (p : Pos) : cellNumber (advancePos p) = cellNumber p + -1 := by
  obtain ⟨r, c⟩ := p
  revert c
  cases r <;> decide

theorem cellNumber_iterate_advancePos (p : Pos) (n : Nat) :
    cellNumber (advancePos^[n] p) = cellNumber p - n := by
  have semiconj : Function.Semiconj cellNumber advancePos (· + -1) := cellNumber_advancePos
  rw [(semiconj.iterate_right n).eq, add_right_iterate, nsmul_eq_mul, mul_neg_one]
  exact (sub_eq_add_neg _ _).symm

/-- The round has 32 cells. -/
theorem iterate_advancePos_eq_self_iff (p : Pos) (n : Nat) : advancePos^[n] p = p ↔ 32 ∣ n := by
  rw [← cellNumber_injective.eq_iff, cellNumber_iterate_advancePos, sub_eq_self,
    ZMod.natCast_eq_zero_iff]

theorem encode_entAdvance (e : BitVec 2) : encode (.entAdvance e) = 0x260000#24 + e.setWidth 24 := by
  revert e; decide

/-! ## The Game Loop's checks and steps (44_game_loop R185, R188, R189) -/

section

variable (s : State)

theorem performs_glowTrigger : Performs [.glowTrigger] s
    { s with glowPin := true, glowCount := Config.glowDuration, glowArmed := true } :=
  performs_of_three_stages rfl rfl rfl

theorem performs_alarmTrigger : Performs [.alarmTrigger] s
    { s with alarmPin := true, alarmCount := 0, alarmArmed := true } :=
  performs_of_three_stages rfl rfl rfl

theorem performs_dvCurrency : Performs [.dvCurrency] s (writeDisplayCurrency s) := performs_of_done rfl

theorem performs_swEdge : Performs [.swEdge] s (swEdgeStep s).1 := performs_of_done rfl

theorem performs_entAdvance (e : Entity) : Performs [.entAdvance e] s (entAdvanceStep e s).1 := by
  cases e <;> exact performs_of_done rfl

theorem performs_stepEnd : Performs [.stepEnd] s s := by
  cases playing : s.gameState with
  | playing =>
    exact performs_of_into (by simp only [taskStep, stepEndStep, playing]) (performs_delay (.step s.speedTier) s)
  | menu | modeSelect | store | exit =>
    exact performs_of_done (by simp only [taskStep, stepEndStep, playing])

end

theorem inPlayerCell_iff (e : Pos) (r : Lane) : inPlayerCell e r = true ↔ e = ⟨r, Config.playerCol⟩ := by
  cases e
  simp [inPlayerCell]

/-- COLLECT_CHECK on a match: a unit of Currency, shown, and the Glow (R188). -/
def collected (s : State) : State :=
  { writeDisplayCurrency { s with currency := s.currency + 1 } with
    glowPin := true, glowCount := Config.glowDuration, glowArmed := true }

/-- HAZARD_CHECK on a match: the Alarm, and the loss (R189). -/
def lost (s : State) : State :=
  { s with alarmPin := true, alarmCount := 0, alarmArmed := true, gameState := .menu }

section

variable {s : State}

theorem performs_collectCheck_match (h : s.collect = ⟨s.playerRow, Config.playerCol⟩) :
    Performs [.collectCheck] s (collected s) :=
  performs_of_into (if_pos ((inPlayerCell_iff _ _).mpr h))
    ((performs_dvCurrency _).cons ((performs_call _ _).cons (performs_glowTrigger _)))

theorem performs_collectCheck_miss (h : s.collect ≠ ⟨s.playerRow, Config.playerCol⟩) :
    Performs [.collectCheck] s s :=
  performs_of_done (if_neg (mt (inPlayerCell_iff _ _).mp h))

theorem performs_hazardCheck_match (h : s.hazard = ⟨s.playerRow, Config.playerCol⟩) :
    Performs [.hazardCheck] s (lost s) :=
  performs_of_into (if_pos ((inPlayerCell_iff _ _).mpr h))
    ((performs_call _ _).cons ((performs_alarmTrigger _).cons ((performs_call _ _).cons
      ((performs_delay _ _).cons (performs_of_done rfl)))))

theorem performs_hazardCheck_miss (h : s.hazard ≠ ⟨s.playerRow, Config.playerCol⟩) :
    Performs [.hazardCheck] s s :=
  performs_of_done (if_neg (mt (inPlayerCell_iff _ _).mp h))

theorem exists_performs_collectCheck (s : State) : ∃ u, Performs [.collectCheck] s u :=
  (em _).elim (fun h => ⟨_, performs_collectCheck_match h⟩) (fun h => ⟨_, performs_collectCheck_miss h⟩)

theorem exists_performs_hazardCheck (s : State) : ∃ u, Performs [.hazardCheck] s u :=
  (em _).elim (fun h => ⟨_, performs_hazardCheck_match h⟩) (fun h => ⟨_, performs_hazardCheck_miss h⟩)

/-- PLAY_STEP is its five parts: the calls between them and the closing wait change nothing (R185). -/
theorem performs_playStep {a b c d t : State} (edge : Performs [.swEdge] s a)
    (collectible : Performs [.entAdvance .collectible] a b) (hazard : Performs [.entAdvance .hazard] b c)
    (collect : Performs [.collectCheck] c d) (check : Performs [.hazardCheck] d t) :
    Performs [.playStep] s t :=
  performs_of_into rfl (edge.cons ((performs_call _ _).cons (collectible.cons (hazard.cons
    ((performs_call _ _).cons (collect.cons (check.cons (performs_stepEnd t))))))))

/-! ## STORE_PURCHASE (44_game_loop R192) -/

theorem encode_storePurchase (i : BitVec 2) :
    encode (.storePurchase i) = 0x2A0000#24 + i.setWidth 24 := by
  revert i; decide

theorem exec_storePurchase (i : Fin 3) (s : State) :
    exec (.storePurchase (BitVec.ofNat 2 i.val)) s = .next (performPoll (.storePurchase i) s) := by
  have operand : glyphOfOperand (BitVec.ofNat 2 i.val) = some i := by revert i; decide
  simp only [exec, execStorePurchase, operand]

/-- STORE_PURCHASE i at a Currency of the price or more: debit, display, record (R192). -/
def purchased (i : Fin 3) (s : State) : State :=
  { writeDisplayCurrency { s with currency := s.currency - Config.price i } with
    selectedGlyph := Config.glyph i }

theorem performs_storePurchase_rejected {i : Fin 3} (h : s.currency < Config.price i) :
    Performs [.storePurchase i] s s :=
  performs_of_into (if_pos h) (performs_call _ _)

theorem performs_storePurchase_paid {i : Fin 3} (h : Config.price i ≤ s.currency) :
    Performs [.storePurchase i] s (purchased i s) :=
  performs_of_into (if_neg (Nat.not_lt.mpr h)) ((performs_dvCurrency _).cons (performs_of_done rfl))

theorem writeDisplayCurrency_of_fits (h : s.currency < 2 ^ dvWidth) :
    writeDisplayCurrency s = { s with displayValue := BitVec.ofNat dvWidth s.currency } := if_pos h

theorem writeDisplayCurrency_of_overflow (h : 2 ^ dvWidth ≤ s.currency) :
    writeDisplayCurrency s =
      { s with displayValue := overflowWord (Config.freeDisplay s.draws), draws := s.draws + 1 } :=
  if_neg (Nat.not_lt.mpr h)

/-! ## GAME_EXIT (44_game_loop R194) -/

theorem pollingTurn_of_exit (hs : BetweenOps s) (h : s.gameState = .exit) : pollingTurn s = s := by
  obtain ⟨poll, tick⟩ := hs
  have idle : s.poll = ⟨[], 0⟩ := poll
  have none : s.tick.todo = [] := congrArg Agenda.todo tick
  have same : { s with poll := ⟨[], 0⟩ } = s := by rw [← idle]
  simpa only [pollingTurn, none, idle, gameLoopNext, h] using same

end

/-! ## KEY_SCAN with no key pressed (43_keypad_scanner R161, R167) -/

theorem keyRows_of_noKey {s : State} (h : NoKey s) :
    s.key.row0 = 0 ∧ s.key.row1 = 0 ∧ s.key.row2 = 0 ∧ s.key.row3 = 0 := by
  have zero : ∀ v : BitVec 4, (∀ c : BitVec 2, bitAt v c = false) → v = 0 := by decide
  exact ⟨zero _ (h 0), zero _ (h 1), zero _ (h 2), zero _ (h 3)⟩

theorem columns_of_noKey {s : State} (h : NoKey s) : s.columns = 0 := by
  obtain ⟨h0, h1, h2, h3⟩ := keyRows_of_noKey h
  simp [State.columns, colSnapshot, rowKeys, h0, h1, h2, h3]

/-- The row lines after ROW_RESTORE of `r` and of every row after it. -/
def restoredFrom (r : BitVec 2) (row : BitVec 4) : BitVec 4 := row &&& ((1#4 <<< r.toNat) - 1)

theorem restoredFrom_first (row : BitVec 4) : restoredFrom 0 row = 0 := by revert row; decide

theorem restoredFrom_last (row : BitVec 4) : restoredFrom 3 row = setBitAt row 3 false := by
  revert row; decide

theorem restoredFrom_next (r : BitVec 2) (row : BitVec 4) (h : r ≠ 3) :
    restoredFrom (r + 1) (setBitAt row r false) = restoredFrom r row := by
  revert r row; decide

theorem setBitAt_driven_restored (row : BitVec 4) (r : BitVec 2) :
    setBitAt (setBitAt row r true) r false = setBitAt row r false := by
  revert row r; decide

section

variable {s : State} (h : NoKey s)

include h

/-- A round of the scan loop up to its sample. -/
theorem performs_scan_sample : Performs [.scanDrive, .scanSettle, .scanSample] s
    { s with row := setBitAt s.row s.ksRow true, ksPhase := .sample, colResult := 0 } := by
  have unasserted : ({ setRow s.ksRow true s with ksPhase := .sample } : State).columns = 0 :=
    columns_of_noKey h
  have sample : Performs [.scanSample] { setRow s.ksRow true s with ksPhase := .sample }
      { s with row := setBitAt s.row s.ksRow true, ksPhase := .sample, colResult := 0 } :=
    performs_of_done (by rw [taskStep, scanSampleStep, sampleColumns, unasserted]; rfl)
  exact (performs_of_done rfl).cons ((performs_of_done rfl).cons sample)

/-- The last round returns NOKEY. -/
theorem performs_scanRound_last (last : s.ksRow = 3) : Performs scanRound s
    { scannedNoKey s with row := setBitAt s.row 3 false, ksHit := s.ksHit } := by
  refine (performs_scan_sample h).append (performs_of_done (t := .scanRestore) ?_)
  simp [taskStep, scanRestoreStep, setRow, Config.rowOrder, setBitAt_driven_restored, scannedNoKey, last]

/-- Any other round goes on with the next row's. -/
theorem performs_scanRound_next {v : State} (more : s.ksRow ≠ 3)
    (rest : Performs scanRound
      { s with
        row := setBitAt s.row s.ksRow false, colResult := 0, ksRow := s.ksRow + 1, ksPhase := .drive } v) :
    Performs scanRound s v := by
  refine (performs_scan_sample h).append (performs_of_into (t := .scanRestore) ?_ rest)
  have more' : ¬ s.ksRow = 3#2 := more
  simp [taskStep, scanRestoreStep, setRow, Config.rowOrder, setBitAt_driven_restored, more']

end

/-- The rounds from KS_ROW to the last row, by induction on how many rows come after KS_ROW. -/
theorem performs_scanRounds (n : Nat) {s : State} (h : NoKey s) (left : s.ksRow.toNat + n = 3) :
    Performs scanRound s
      { scannedNoKey s with row := restoredFrom s.ksRow s.row, ksHit := s.ksHit } := by
  induction n generalizing s with
  | zero =>
    have last : s.ksRow = 3 := BitVec.eq_of_toNat_eq left
    rw [last, restoredFrom_last]
    exact performs_scanRound_last h last
  | succ n ih =>
    have more : s.ksRow ≠ 3 := by bv_omega
    have left' : (s.ksRow + 1).toNat + n = 3 := by bv_omega
    have next := ih (s := { s with
      row := setBitAt s.row s.ksRow false, colResult := 0, ksRow := s.ksRow + 1, ksPhase := .drive }) h left'
    simp only [restoredFrom_next _ _ more] at next
    exact performs_scanRound_next h more next

theorem performs_keyScan_noKey {s : State} (pins : s.pinsConfigured = true) (h : NoKey s) :
    Performs [.keyScan] s (scannedNoKey s) := by
  have rounds := performs_scanRounds 3 (s := { s with ksHit := none, ksRow := 0, ksPhase := .drive }) h rfl
  simp only [restoredFrom_first] at rounds
  exact performs_of_into (if_pos pins) rounds

/-! ## MENU_ITER with no key pressed (44_game_loop R182) -/

theorem noKey_ne_codeOfKey : ∀ n : Fin 16, Config.noKey ≠ codeOfKey n := by decide

theorem performs_menuRoute_noKey {s : State} (h : s.keyResult = Config.noKey) :
    Performs [.menuRoute] s s := by
  have other (n : Fin 16) : s.keyResult ≠ codeOfKey n := h ▸ noKey_ne_codeOfKey n
  exact performs_of_done ((if_neg (other _)).trans ((if_neg (other _)).trans (if_neg (other _))))

theorem performs_menuIter_noKey {s : State} (pins : s.pinsConfigured = true) (h : NoKey s) :
    Performs [.menuIter] s (scannedNoKey (writeDisplayCurrency s)) := by
  obtain ⟨w, n, shown, -⟩ := writeDisplayCurrency_spec s
  refine performs_of_into rfl ((performs_dvCurrency s).cons ?_)
  rw [shown]
  have scan := performs_keyScan_noKey (s := { s with displayValue := w, draws := n }) pins h
  exact scan.cons (performs_menuRoute_noKey rfl)

/-! ## RELEASE_WAIT performed whole (43_keypad_scanner R168) -/

theorem finishPoll_of_holding {s : State} (h : Holding s) : finishPoll s = s :=
  drainPoll_none _ (pollStep_of_holding h)

/-- What RELEASE_WAIT does once the rows it selects are known: it ends on a snapshot of 0000, and holds on any
other. -/
theorem performPoll_releaseWait {s : State} {rows : BitVec 4} {n : Nat} (hs : BetweenOps s)
    (select : selectReleaseRows s = { s with row := rows, draws := n }) :
    performPoll .releaseWait s =
      if colSnapshot rows s.key = 0 then { s with row := 0, draws := n }
      else { s with row := rows, draws := n, poll := ⟨[.releaseWait], 1⟩ } := by
  have selected : taskStep .releaseWait 0 s = ({ s with row := rows, draws := n }, .again) := by
    rw [taskStep, releaseWaitStep, select]
  split
  case isTrue released =>
    exact performPoll_of_performs hs (performs_of_three_stages selected (if_pos released) rfl)
  case isFalse held =>
    obtain ⟨poll, tick⟩ := hs
    rw [performPoll_eq_finishPoll tick poll, finishPoll_cons selected rfl]
    exact finishPoll_of_holding ⟨rfl, rfl, held⟩

/-! ## A Currency beyond DV_MAX on the display (44_game_loop R193, 93_implementation_defined U21) -/

/-- DisplayValue shows Currency where it fits the word, and is out of range where Currency is. -/
def ShowsCurrency (s : State) : Prop :=
  (s.currency < 2 ^ dvWidth → s.displayValue.toNat = s.currency) ∧
    (Config.dvMax < s.currency → Config.dvMax < s.displayValue.toNat)

theorem showsCurrency_writeDisplayCurrency (s : State) : ShowsCurrency (writeDisplayCurrency s) := by
  obtain ⟨w, n, shown, fits, range⟩ := writeDisplayCurrency_spec s
  rw [shown]
  exact ⟨fun h => (fits h).1, range⟩

@[simp] theorem writeDisplayCurrency_currency (s : State) :
    (writeDisplayCurrency s).currency = s.currency := by
  obtain ⟨w, n, shown, -⟩ := writeDisplayCurrency_spec s
  rw [shown]

@[simp] theorem collected_currency (s : State) : (collected s).currency = s.currency + 1 :=
  writeDisplayCurrency_currency _

@[simp] theorem purchased_currency (i : Fin 3) (s : State) :
    (purchased i s).currency = s.currency - Config.price i :=
  writeDisplayCurrency_currency _

theorem showsCurrency_collected (s : State) : ShowsCurrency (collected s) :=
  showsCurrency_writeDisplayCurrency { s with currency := s.currency + 1 }

theorem showsCurrency_purchased (i : Fin 3) (s : State) : ShowsCurrency (purchased i s) :=
  showsCurrency_writeDisplayCurrency { s with currency := s.currency - Config.price i }

/-- An operation that leaves a Currency beyond DV_MAX and shows it makes the next multiplexing step raise
DisplayRange. -/
theorem displayRange_of_performs {i : Instr} {t : Task} {s u : State} (hs : BetweenOps s)
    (run : exec i s = .next (performPoll t s)) (whole : Performs [t] s u) (shown : ShowsCurrency u)
    (high : Config.dvMax < u.currency) :
    ∃ u v : State, exec i s = .next u ∧ Config.dvMax < u.currency ∧ exec .muxStep u = .next v ∧
      v.faults.holds (.displayRange u.displayValue.toNat) = true ∧
      (u.currency < 2 ^ dvWidth → u.displayValue.toNat = u.currency) := by
  obtain ⟨-, tick⟩ := whole.betweenOps hs
  obtain ⟨fits, range⟩ := shown
  exact ⟨u, _, exec_of_performs run hs whole, high,
    exec_muxStep_fault tick (Nat.not_le.mpr (range high)), muxFaulted_holds u, fits⟩

/-- Every word above DV_MAX is one of the free ones. -/
theorem exists_overflowWord_eq (w : BitVec dvWidth) (h : Config.dvMax < w.toNat) :
    ∃ n : Nat, overflowWord n = w := by
  have bound := w.isLt
  refine ⟨w.toNat - (Config.dvMax + 1), BitVec.eq_of_toNat_eq ?_⟩
  rw [overflowWord_toNat, Nat.mod_eq_of_lt (by omega)]
  omega

theorem encode_adcRead (id : Byte) : encode (.adcRead id) = 0x340000#24 + id.setWidth 24 := by
  rw [encode, Instr.opn, Instr.arg, BitVec.ofNat_add, BitVec.ofNat_toNat]

end Sys2Proof.Machine

namespace Sys2Proof.GameLoop

open Sys2Proof.Machine

/-- Settles O54: the five parts, each performed whole in turn, are what PLAY_STEP performs. -/
theorem playStep : Obligations.PlayStep := by
  refine ⟨by decide, fun s ready => ?_⟩
  have idle := ready.betweenOps
  have edge := performs_swEdge s
  have collectible := performs_entAdvance (swEdgeStep s).1 .collectible
  have hazard := performs_entAdvance (entAdvanceStep .collectible (swEdgeStep s).1).1 .hazard
  obtain ⟨d, collect⟩ := exists_performs_collectCheck _
  obtain ⟨t, check⟩ := exists_performs_hazardCheck d
  have whole := performs_playStep edge collectible hazard collect check
  have idleA := edge.betweenOps idle
  have idleB := collectible.betweenOps idleA
  have idleC := hazard.betweenOps idleB
  have idleD := collect.betweenOps idleC
  exact ⟨_, _, _, d, t,
    exec_of_performs rfl idle edge,
    exec_of_performs rfl idleA collectible,
    exec_of_performs rfl idleB hazard,
    exec_of_performs rfl idleC collect,
    exec_of_performs rfl idleD check,
    exec_of_performs rfl idle whole⟩

/-- Settles O51: the advance is one `taskStep`; over 32 cells it is a round. -/
theorem entAdvance : Obligations.EntAdvance := by
  refine ⟨encode_entAdvance, fun s ready => ?_, fun p n low high => ?_⟩
  · have idle := ready.betweenOps
    exact ⟨exec_of_performs rfl idle (performs_entAdvance s .collectible),
      exec_of_performs rfl idle (performs_entAdvance s .hazard)⟩
  · rw [iterate_advancePos_eq_self_iff]
    omega

/-- Settles O53, by whether the hazard stands in the player's cell. -/
theorem hazardCheck : Obligations.HazardCheck := by
  refine ⟨by decide, fun s ready h => ?_, fun s ready h => ?_⟩
  · exact exec_of_performs rfl ready.betweenOps (performs_hazardCheck_match h)
  · exact exec_of_performs rfl ready.betweenOps (performs_hazardCheck_miss h)

/-- Settles O55, by whether Currency reaches the price; what is left of it fits the word. -/
theorem storePurchase : Obligations.StorePurchase := by
  refine ⟨encode_storePurchase, fun s i ready fits => ?_⟩
  have run := exec_storePurchase i s
  split
  case isTrue below =>
    exact exec_of_performs run ready.betweenOps (performs_storePurchase_rejected below)
  case isFalse enough =>
    have whole := exec_of_performs run ready.betweenOps
      (performs_storePurchase_paid (Nat.not_lt.mp enough))
    rwa [purchased, writeDisplayCurrency_of_fits fits] at whole

/-- Settles O56: GAME_EXIT is one `taskStep`, and the Game Loop selects nothing in Exit. -/
theorem gameExit : Obligations.GameExit := by
  refine ⟨by decide, fun s ready => ?_⟩
  have left : Performs [.gameExit] s { s with gameState := .exit } := performs_of_done rfl
  exact ⟨exec_of_performs rfl ready.betweenOps left,
    pollingTurn_of_exit (left.betweenOps ready.betweenOps) rfl⟩

/-- Settles O58: each free value is drawn in one micro-step, and what does not fit is shown out of range. -/
theorem freeValues : Obligations.FreeValues := by
  refine ⟨encode_adcRead, fun s id ready => ?_, fun s ready hit => ?_, fun s ready excess here => ?_,
    fun s ready pins none excess => ?_, fun s i ready paid excess => ?_, overflowWord_outOfRange,
    exists_overflowWord_eq, fun i s ready h => ?_⟩
  · exact exec_of_performs rfl ready.betweenOps (performs_of_done rfl)
  · cases mode : Config.releaseRows <;>
      exact ⟨_, _, rfl, congrArg Host.Outcome.next (performPoll_releaseWait ready.betweenOps
        (by simp only [selectReleaseRows, hit, mode]))⟩
  · have whole := exec_of_performs (i := .collectCheck) rfl ready.betweenOps
      (performs_collectCheck_match here)
    rwa [collected, writeDisplayCurrency_of_overflow excess] at whole
  · have whole := exec_of_performs (i := .menuIter) rfl ready.betweenOps
      (performs_menuIter_noKey pins none)
    rwa [writeDisplayCurrency_of_overflow excess] at whole
  · have whole := exec_of_performs (exec_storePurchase i s) ready.betweenOps
      (performs_storePurchase_paid paid)
    rwa [purchased, writeDisplayCurrency_of_overflow excess] at whole
  · have idle := ready.betweenOps
    rcases h with ⟨rfl, here, high⟩ | ⟨rfl, pins, none, high⟩ | ⟨g, rfl, high⟩
    · exact displayRange_of_performs idle rfl (performs_collectCheck_match here)
        (showsCurrency_collected s) (high.trans_eq (collected_currency s).symm)
    · exact displayRange_of_performs idle rfl (performs_menuIter_noKey pins none)
        (showsCurrency_writeDisplayCurrency s) (high.trans_eq (writeDisplayCurrency_currency s).symm)
    · have left : Config.dvMax < (purchased g s).currency := by rw [purchased_currency]; omega
      exact displayRange_of_performs idle (exec_storePurchase g s) (performs_storePurchase_paid (by omega))
        (showsCurrency_purchased g s) left

end Sys2Proof.GameLoop

namespace Sys2Proof.Machine

/-! ## The record of faults (60_exceptions, section 1) -/

/-- `u` holds every fault `s` holds. -/
def KeepsFaults (s u : State) : Prop := ∀ f : FaultName, s.faults.holds f = true → u.faults.holds f = true

section

variable {s u v : State}

theorem keepsFaults_of_faults_eq (h : u.faults = s.faults) : KeepsFaults s u := fun _ hf => by rwa [h]

theorem keepsFaults_of_faults_add {g : FaultName} (h : u.faults = s.faults.add g) : KeepsFaults s u :=
  fun f hf => by simp [h, holds_add, hf]

theorem KeepsFaults.refl (s : State) : KeepsFaults s s := keepsFaults_of_faults_eq rfl

theorem KeepsFaults.trans (h : KeepsFaults s u) (h' : KeepsFaults u v) : KeepsFaults s v :=
  fun f hf => h' f (h f hf)

/-! ### What one micro-step does to the record -/

@[simp] theorem writeDisplayCurrency_faults (s : State) : (writeDisplayCurrency s).faults = s.faults := by
  unfold writeDisplayCurrency
  split <;> rfl

@[simp] theorem selectReleaseRows_faults (s : State) : (selectReleaseRows s).faults = s.faults := by
  unfold selectReleaseRows
  split <;> rfl

/-- A task of the polling context leaves the record as it is, or raises BootOrder and writes nothing else. -/
theorem taskStep_faults (t : Task) (k : Nat) (s : State) :
    (taskStep t k s).1.faults = s.faults ∨ taskStep t k s = (raise .bootOrder s, .raised) := by
  cases t with
  | tickStart | keyScan =>
    simp only [taskStep, tickStartStep, keyScanStep]
    split
    · exact .inl rfl
    · exact .inr rfl
  | dvCurrency => exact .inl (writeDisplayCurrency_faults s)
  | glowTrigger | alarmTrigger =>
    match k with
    | 0 | 1 | _ + 2 => exact .inl rfl
  | releaseWait =>
    left
    simp only [taskStep, releaseWaitStep]
    split
    · exact selectReleaseRows_faults s
    · split <;> rfl
    · rfl
  | scanRestore | scanReturn | stepEnd | entAdvance | collectCheck | hazardCheck | storePurchase | menuRoute
  | modeselRoute | storeRoute =>
    left
    simp only [taskStep, scanRestoreStep, scanReturnStep, stepEndStep, entAdvanceStep, collectCheckStep,
      hazardCheckStep, storePurchaseStep, menuRouteStep, modeselRouteStep, storeRouteStep]
    (repeat' split) <;> rfl
  | _ => exact .inl rfl

/-- The pattern step of MUX_STEP, the only one of the handler that raises, writes nothing else where it does. -/
theorem muxPattern_faults (s : State) :
    (muxPattern s).1.faults = s.faults ∨ ∃ f, muxPattern s = (raise f s, .raised) := by
  unfold muxPattern
  split
  · exact .inr ⟨_, rfl⟩
  · split
    · exact .inl rfl
    · exact .inr ⟨_, rfl⟩

/-- A task of the interrupt context leaves the record as it is, or raises a fault and writes nothing else. -/
theorem tickTaskStep_faults (t : TickTask) (k : Nat) (s : State) :
    (tickTaskStep t k s).1.faults = s.faults ∨ ∃ f, tickTaskStep t k s = (raise f s, .raised) := by
  cases t with
  | pace => left; simp only [tickTaskStep, paceStep]; split <;> rfl
  | effect | ack => exact .inl rfl
  | glow => left; simp only [tickTaskStep, glowStep_eq, glowed]; (repeat' split) <;> rfl
  | alarm => left; simp only [tickTaskStep, alarmStep]; (repeat' split) <;> rfl
  | mux =>
    simp only [tickTaskStep, muxStep]
    split
    · exact .inl rfl
    · exact muxPattern_faults s
    · exact .inl rfl
    · exact .inl rfl

theorem pollStep_faults (h : pollStep s = some u) :
    u.faults = s.faults ∨ u = { s with faults := s.faults.add .bootOrder, poll := Agenda.idle } := by
  obtain ⟨t, rest, a, -, agenda, rfl⟩ := pollStep_cases h
  rcases taskStep_faults t s.poll.stage s with same | raised
  · exact .inl same
  · rw [raised] at agenda ⊢
    cases agenda
    exact .inr rfl

theorem tickStep_faults (h : tickStep s = some u) :
    u.faults = s.faults ∨ ∃ f, u = { s with faults := s.faults.add f, tick := Agenda.idle } := by
  obtain ⟨t, rest, a, -, agenda, rfl⟩ := tickStep_cases h
  rcases tickTaskStep_faults t s.tick.stage s with same | ⟨f, raised⟩
  · exact .inl same
  · rw [raised] at agenda ⊢
    cases agenda
    exact .inr ⟨f, rfl⟩

theorem pollStep_keepsFaults (h : pollStep s = some u) : KeepsFaults s u := by
  rcases pollStep_faults h with same | rfl
  · exact keepsFaults_of_faults_eq same
  · exact keepsFaults_of_faults_add (g := .bootOrder) rfl

theorem tickStep_keepsFaults (h : tickStep s = some u) : KeepsFaults s u := by
  rcases tickStep_faults h with same | ⟨f, rfl⟩
  · exact keepsFaults_of_faults_eq same
  · exact keepsFaults_of_faults_add (g := f) rfl

end

/-! ### Operations performed whole, and turns -/

theorem drainPoll_keepsFaults (n : Nat) (s : State) : KeepsFaults s (drainPoll n s) := by
  induction n generalizing s with
  | zero => exact .refl s
  | succ n ih =>
    cases hs : pollStep s with
    | some u => rw [drainPoll_some n hs]; exact (pollStep_keepsFaults hs).trans (ih u)
    | none => rw [drainPoll_none _ hs]; exact .refl s

theorem drainTick_keepsFaults (n : Nat) (s : State) : KeepsFaults s (drainTick n s) := by
  induction n generalizing s with
  | zero => exact .refl s
  | succ n ih =>
    cases hs : tickStep s with
    | some u => rw [drainTick_some n hs]; exact (tickStep_keepsFaults hs).trans (ih u)
    | none => rw [drainTick_none _ hs]; exact .refl s

theorem finishTick_keepsFaults (s : State) : KeepsFaults s (finishTick s) := drainTick_keepsFaults _ s

theorem performPoll_keepsFaults (t : Task) (s : State) : KeepsFaults s (performPoll t s) :=
  (finishTick_keepsFaults s).trans (drainPoll_keepsFaults _ (givePoll t (finishTick s)))

theorem performTick_keepsFaults (ts : List TickTask) (s : State) : KeepsFaults s (performTick ts s) :=
  (finishTick_keepsFaults s).trans (finishTick_keepsFaults { finishTick s with tick := ⟨ts, 0⟩ })

theorem performHandler_keepsFaults (s : State) : KeepsFaults s (performHandler s) := by
  unfold performHandler
  split
  · exact (finishTick_keepsFaults s).trans (finishTick_keepsFaults (enterHandler (finishTick s)))
  · exact finishTick_keepsFaults s

theorem interruptTurn_keepsFaults (s : State) : KeepsFaults s (interruptTurn s) := by
  unfold interruptTurn
  split
  · split <;> exact keepsFaults_of_faults_eq rfl
  · cases hs : tickStep s with
    | some u => exact tickStep_keepsFaults hs
    | none => exact .refl s

theorem pollingTurn_keepsFaults (s : State) : KeepsFaults s (pollingTurn s) := by
  unfold pollingTurn
  split
  · exact .refl s
  · exact keepsFaults_of_faults_eq rfl
  · cases hs : pollStep s with
    | some u => exact pollStep_keepsFaults hs
    | none => exact .refl s

theorem takeTurn_keepsFaults (m : Mover) (s : State) : KeepsFaults s (takeTurn m s) := by
  cases m with
  | timer | key | switch => exact keepsFaults_of_faults_eq rfl
  | interrupt => exact interruptTurn_keepsFaults s
  | polling => exact pollingTurn_keepsFaults s

/-- Every operation but RESET is moves of the agents, none of which removes a fault. -/
theorem exec_keepsFaults {i : Instr} {s u : State} (hi : i ≠ .reset) (h : exec i s = .next u) :
    KeepsFaults s u := by
  cases i with
  | reset => exact absurd rfl hi
  | tmrFire | envKey | envSw => cases h; exact keepsFaults_of_faults_eq rfl
  | tickHandler => cases h; exact performHandler_keepsFaults s
  | paceStep | effectTick | glowStep | alarmStep | muxStep | irqAck =>
    cases h; exact performTick_keepsFaults _ s
  | entAdvance e =>
    simp only [exec, execEntAdvance] at h
    split at h
    · cases h; exact performPoll_keepsFaults _ s
    · cases h
  | storePurchase i =>
    simp only [exec, execStorePurchase] at h
    split at h
    · cases h; exact performPoll_keepsFaults _ s
    · cases h
  | _ => cases h; exact performPoll_keepsFaults _ s

/-- Settles O43: a micro-step adds a fault and ends its context's chain or leaves the record as it is, so whatever
is made of micro-steps keeps every fault; RESET starts from the empty set. -/
theorem faultsSticky : Obligations.FaultsSticky := by
  refine ⟨fun s f g => holds_add s.faults f g, fun _ _ => pollStep_faults, fun _ _ => tickStep_faults,
    fun _ _ _ f hi h => exec_keepsFaults hi h f, takeTurn_keepsFaults, fun s u h => ?_⟩
  have started : resetFrom s = u := Host.Outcome.next.inj h
  rw [← started]
  rfl

end Sys2Proof.Machine

namespace Sys2Proof.Laws.Encoding

/-! ## The operation word, both ways (30_encoding R81, R82, R90) -/

/-- Every instruction's own statement, together. -/
theorem statement : ∀ i : Instr, Statement i
  | .reset => reset | .tmrFire => tmrFire | .tickHandler => tickHandler | .paceStep => paceStep
  | .effectTick => effectTick | .glowStep => glowStep | .alarmStep => alarmStep | .muxStep => muxStep
  | .irqAck => irqAck | .tickStart => tickStart | .dvWrite v => dvWrite v | .glowTrigger => glowTrigger
  | .alarmTrigger => alarmTrigger | .keyScan => keyScan | .rowDrive r => rowDrive r
  | .settleWait => settleWait | .colSample => colSample | .rowRestore r => rowRestore r
  | .releaseWait => releaseWait | .quietWait => quietWait | .modeRead => modeRead | .wait d => wait d
  | .gameBoot => gameBoot | .menuIter => menuIter | .modeselIter => modeselIter | .playEnter => playEnter
  | .playStep => playStep | .swEdge => swEdge | .entAdvance e => entAdvance e
  | .collectCheck => collectCheck | .hazardCheck => hazardCheck | .storeIter => storeIter
  | .storePurchase i => storePurchase i | .gameExit => gameExit | .pinConfig => pinConfig
  | .lcdCmd b => lcdCmd b | .lcdGlyph b => lcdGlyph b | .lcdCursor row col => lcdCursor row col
  | .adcRead id => adcRead id | .audioPulse => audioPulse | .envKey level row col => envKey level row col
  | .envSw level => envSw level

/-- The two fields of the word are OPN and ARG. -/
theorem encode_fields {i : Instr} (ho : i.opn < 256) (ha : i.arg < 65536) :
    (encode i).toNat / 65536 = i.opn ∧ (encode i).toNat % 65536 = i.arg := by
  rw [encode, BitVec.toNat_ofNat, Nat.mod_eq_of_lt (by omega)]
  omega

theorem decode_encode {i : Instr} (wf : i.wellFormed = true) : decode (encode i) = .ok i := by
  obtain ⟨ho, ha, parts⟩ := statement i wf
  obtain ⟨opn, arg⟩ := encode_fields ho ha
  rw [decode, opn, arg, parts]

theorem decodeTableWord_encode {i : Instr} (wf : i.wellFormed = true) :
    decodeTableWord 24 (encode i).toNat = some i := by
  rw [decodeTableWord, if_pos ⟨le_rfl, (encode i).isLt⟩, BitVec.ofNat_toNat, BitVec.setWidth_eq,
    decode_encode wf]

/-- What the decoder must give for the fields `opn` and `arg`: an operation with legal operands and these fields. -/
def Reads (opn arg : Nat) (i : Instr) : Prop := i.opn = opn ∧ i.arg = arg ∧ i.wellFormed = true

section

variable {o arg : Nat} {j : Instr}

theorem acceptOperand_eq_ok {i : Instr} (h : acceptOperand i = .ok j) : j = i ∧ i.wellFormed = true := by
  unfold acceptOperand at h
  split at h
  case isTrue wf => cases h; exact ⟨rfl, wf⟩
  case isFalse => cases h

theorem argN_reads {i : Instr} (fields : Reads o 0 i) (h : argN i arg = .ok j) : Reads o arg j := by
  unfold argN at h
  split at h
  case isTrue zero => cases h; rw [zero]; exact fields
  case isFalse => cases h

theorem argV_reads {k : BitVec 16 → Instr} (fields : ∀ v, Reads o v.toNat (k v)) (ha : arg < 65536)
    (h : argV k arg = .ok j) : Reads o arg j := by
  cases h
  simpa [Nat.mod_eq_of_lt ha] using fields (BitVec.ofNat 16 arg)

theorem argR_reads {k : BitVec 2 → Instr} (fields : ∀ i, (k i).opn = o ∧ (k i).arg = i.toNat)
    (h : argR k arg = .ok j) : Reads o arg j := by
  unfold argR at h
  split at h
  case isTrue small =>
    obtain ⟨rfl, wf⟩ := acceptOperand_eq_ok h
    obtain ⟨opn, value⟩ := fields (BitVec.ofNat 2 arg)
    exact ⟨opn, value.trans ((BitVec.toNat_ofNat _ _).trans (Nat.mod_eq_of_lt small)), wf⟩
  case isFalse => cases h

theorem argB_reads {k : Byte → Instr} (fields : ∀ b, Reads o b.toNat (k b)) (h : argB k arg = .ok j) :
    Reads o arg j := by
  unfold argB at h
  split at h
  case isTrue small => cases h; simpa [Nat.mod_eq_of_lt small] using fields (BitVec.ofNat 8 arg)
  case isFalse => cases h

theorem argP_reads (h : argP .lcdCursor arg = .ok j) : Reads 0x33 arg j := by
  unfold argP at h
  split at h
  case isTrue small =>
    cases h
    refine ⟨rfl, ?_, rfl⟩
    simp only [Instr.arg, BitVec.toNat_ofNat]
    omega
  case isFalse => cases h

theorem argK_reads (h : argK .envKey arg = .ok j) : Reads 0x40 arg j := by
  unfold argK at h
  split at h
  case isTrue small =>
    cases h
    refine ⟨rfl, ?_, rfl⟩
    have level : (decide (arg / 256 = 1)).toNat = arg / 256 := by
      by_cases one : arg / 256 = 1
      · simp [one]
      · simp [one]; omega
    simp only [Instr.arg, BitVec.toNat_ofNat, level]
    omega
  case isFalse => cases h

theorem argL_reads (h : argL .envSw arg = .ok j) : Reads 0x41 arg j := by
  unfold argL at h
  split at h
  case isTrue small =>
    cases h
    refine ⟨rfl, ?_, rfl⟩
    by_cases one : arg = 1
    · simp [Instr.arg, one]
    · simp [Instr.arg, one]; omega
  case isFalse => cases h

/-- The operation map, read backwards format by format: the operation has the fields it was decoded from. -/
theorem decodeParts_reads (ha : arg < 65536) (h : decodeParts o arg = .ok j) : Reads o arg j := by
  unfold decodeParts at h
  split at h
  case h_11 | h_22 => exact argV_reads (fun _ => ⟨rfl, rfl, rfl⟩) ha h
  case h_15 | h_18 | h_29 | h_33 => exact argR_reads (fun _ => ⟨rfl, rfl⟩) h
  case h_36 | h_37 | h_39 => exact argB_reads (fun _ => ⟨rfl, rfl, rfl⟩) h
  case h_38 => exact argP_reads h
  case h_41 => exact argK_reads h
  case h_42 => exact argL_reads h
  case h_43 => cases h
  all_goals exact argN_reads ⟨rfl, rfl, rfl⟩ h

end

/-- A word the decoder accepts is the word of the operation it gives. -/
theorem encode_of_decode {w : OpWord} {i : Instr} (h : decode w = .ok i) :
    encode i = w ∧ i.wellFormed = true := by
  obtain ⟨opn, arg, wf⟩ := decodeParts_reads (Nat.mod_lt _ (by decide)) h
  refine ⟨?_, wf⟩
  rw [encode, opn, arg, Nat.div_add_mod', BitVec.ofNat_toNat, BitVec.setWidth_eq]

end Sys2Proof.Laws.Encoding

namespace Sys2Proof.Machine

/-! ## A step, by what stands first in the script -/

theorem step_of_script {s : State} {e : Slot} {rest : List Slot} (h : s.script = e :: rest) :
    step s = performSlot e { s with script := rest } := by
  rw [step, h]

theorem step_of_word {s : State} {w : OpWord} {rest : List Slot} {i : Instr}
    (h : s.script = .word w :: rest) (accepted : decode w = .ok i) :
    step s = exec i { s with script := rest } := by
  rw [step_of_script h, performSlot, performWord, accepted]

theorem step_of_no_script {s : State} (h : s.script = []) : step s = .next (freeTurn s) := by
  unfold step
  split
  case h_1 script => cases h.symm.trans script
  case h_2 => rfl

end Sys2Proof.Machine

namespace Sys2Proof.Encoding

open Sys2Proof.Machine Sys2Proof.Laws.Encoding

/-- Settles O1: OPN and ARG come back out of the word, and the decoder's tables give the operation for them. -/
theorem decodeOfEncode : Obligations.DecodeOfEncode :=
  fun _ wf => ⟨decode_encode wf, decodeTableWord_encode wf⟩

/-- Settles O2: each ARG format gives back the operand it was decoded from, and nothing else is accepted. -/
theorem encodeOfDecode : Obligations.EncodeOfDecode := fun _ _ => encode_of_decode

/-- Settles O3: the words are decoded as they stand. -/
theorem sampleWords : Obligations.SampleWords := by
  unfold Obligations.SampleWords
  decide

theorem decode_eq_error {w : OpWord} (h : ∀ i : Instr, i.wellFormed = true → encode i ≠ w) :
    ∃ e : DecodeError, decode w = .error e := by
  cases accepted : decode w with
  | ok i =>
    obtain ⟨word, wf⟩ := encode_of_decode accepted
    exact absurd word (h i wf)
  | error e => exact ⟨e, rfl⟩

/-- Settles O4: the entry is decoded and performed; `withFetchWord` puts such an entry first and changes nothing
else. -/
theorem stepPerformsWord : Obligations.StepPerformsWord := by
  refine ⟨fun s w rest i => step_of_word, fun s i wf => ?_⟩
  have word : BitVec.ofNat 24 ((encode i).toNat % 2 ^ 24) = encode i := by
    rw [Nat.mod_eq_of_lt (encode i).isLt, BitVec.ofNat_toNat, BitVec.setWidth_eq]
  exact step_of_word (s := s.withFetchWord 24 (encode i).toNat) (w := encode i) (rest := s.script)
    (by rw [State.withFetchWord, scriptWithWord, word]) (decode_encode wf)

/-- Settles O5: a decoder that accepted the word would give an operation that encodes to it. -/
theorem stepRefusesOtherWords : Obligations.StepRefusesOtherWords := by
  intro s w rest script other
  obtain ⟨e, refused⟩ := decode_eq_error other
  refine ⟨e, ?_⟩
  rcases script with word | issue
  · rw [step_of_script word, performSlot, performWord, refused]
  · rw [step_of_script issue, performSlot, issueWord, refused]

/-- Settles O6: each kind of entry is taken as `performSlot` says, and with none a mover is drawn. -/
theorem stepTakesTurns : Obligations.StepTakesTurns := by
  refine ⟨fun s m rest h => step_of_script h, fun s w rest i t h accepted task => ?_, fun s => step_of_no_script⟩
  rw [step_of_script h, performSlot, issueWord, accepted]
  simp only [issueInstr, task]
  rfl

end Sys2Proof.Encoding

namespace Sys2Proof.Machine

/-! ## What a micro-step of each context may write (20_memory, section 1) -/

/-- The fields outside the blink cells that the polling context never writes: the rest of the tick side, the inputs. -/
def tickSide (s : State) : Bool × Nat × BitVec 2 × BitVec 4 × BitVec 7 × KeyMatrix × Bool :=
  (s.tickPending, s.paceCount, s.digitSlot, s.an, s.seg, s.key, s.sw)

theorem tickSide_inj {s u : State} : tickSide u = tickSide s ↔
    u.tickPending = s.tickPending ∧ u.paceCount = s.paceCount ∧ u.digitSlot = s.digitSlot ∧ u.an = s.an ∧
      u.seg = s.seg ∧ u.key = s.key ∧ u.sw = s.sw := by
  simp only [tickSide, Prod.mk.injEq]

theorem taskStep_tickSide (t : Task) (k : Nat) (s : State) :
    tickSide (taskStep t k s).1 = tickSide s := by
  cases t with
  | tickStart | keyScan | dvCurrency | collectCheck | hazardCheck | storePurchase =>
    simp only [taskStep, tickStartStep, keyScanStep, dvCurrencyStep, writeDisplayCurrency, collectCheckStep,
      hazardCheckStep, storePurchaseStep]
    split <;> rfl
  | scanRestore | menuRoute | modeselRoute | storeRoute =>
    simp only [taskStep, scanRestoreStep, setRow, menuRouteStep, modeselRouteStep, storeRouteStep]
    (repeat' split) <;> rfl
  | scanReturn | stepEnd =>
    simp only [taskStep, scanReturnStep, stepEndStep]
    split <;> rfl
  | entAdvance e => cases e <;> rfl
  | glowTrigger | alarmTrigger =>
    match k with
    | 0 | 1 | _ + 2 => rfl
  | releaseWait =>
    simp only [taskStep, releaseWaitStep, selectReleaseRows]
    (repeat' split) <;> rfl
  | _ => rfl

/-- The cells of an effect: armed, count, pin. -/
abbrev EffectCells := Bool × Nat × Bool

/-- The cells of Glow. -/
def glowCells (s : State) : EffectCells := (s.glowArmed, s.glowCount, s.glowPin)

/-- The cells of Alarm. -/
def alarmCells (s : State) : EffectCells := (s.alarmArmed, s.alarmCount, s.alarmPin)

/-- PaceCount and the cells of the two blink effects. -/
def blinkCells (s : State) : Nat × EffectCells × EffectCells := (s.paceCount, glowCells s, alarmCells s)

@[simp] theorem writeDisplayCurrency_blinkCells (s : State) :
    blinkCells (writeDisplayCurrency s) = blinkCells s := by
  obtain ⟨w, n, shown, -⟩ := writeDisplayCurrency_spec s
  rw [shown]
  rfl

@[simp] theorem selectReleaseRows_blinkCells (s : State) :
    blinkCells (selectReleaseRows s) = blinkCells s := by
  unfold selectReleaseRows
  split <;> rfl

/-- Only the two triggers write to the blink cells. -/
theorem taskStep_blinkCells {t : Task} (glow : t ≠ .glowTrigger) (alarm : t ≠ .alarmTrigger) (k : Nat)
    (s : State) : blinkCells (taskStep t k s).1 = blinkCells s := by
  cases t with
  | glowTrigger => exact absurd rfl glow
  | alarmTrigger => exact absurd rfl alarm
  | dvCurrency => exact writeDisplayCurrency_blinkCells s
  | entAdvance e => cases e <;> rfl
  | releaseWait =>
    simp only [taskStep, releaseWaitStep]
    split
    · exact selectReleaseRows_blinkCells s
    · split <;> rfl
    · rfl
  | tickStart | keyScan | scanRestore | scanReturn | stepEnd | collectCheck | hazardCheck | storePurchase
  | menuRoute | modeselRoute | storeRoute =>
    simp only [taskStep, tickStartStep, keyScanStep, scanRestoreStep, setRow, scanReturnStep, stepEndStep,
      collectCheckStep, hazardCheckStep, storePurchaseStep, menuRouteStep, modeselRouteStep, storeRouteStep]
    (repeat' split) <;> rfl
  | _ => rfl

theorem blinkCells_inj {s u : State} : blinkCells u = blinkCells s ↔
    u.paceCount = s.paceCount ∧
      (u.glowArmed = s.glowArmed ∧ u.glowCount = s.glowCount ∧ u.glowPin = s.glowPin) ∧
      u.alarmArmed = s.alarmArmed ∧ u.alarmCount = s.alarmCount ∧ u.alarmPin = s.alarmPin := by
  simp only [blinkCells, glowCells, alarmCells, Prod.mk.injEq]

/-- The values the polling context may write to the blink cells. -/
def PollingBlinkWrites (s u : State) : Prop :=
  (u.glowArmed = s.glowArmed ∨ u.glowArmed = true) ∧
  (u.glowCount = s.glowCount ∨ u.glowCount = Config.glowDuration) ∧
  (u.glowPin = s.glowPin ∨ u.glowPin = true) ∧
  (u.alarmArmed = s.alarmArmed ∨ u.alarmArmed = true) ∧
  (u.alarmCount = s.alarmCount ∨ u.alarmCount = 0) ∧
  (u.alarmPin = s.alarmPin ∨ u.alarmPin = true)

theorem taskStep_blinkWrites (t : Task) (k : Nat) (s : State) :
    PollingBlinkWrites s (taskStep t k s).1 := by
  by_cases glow : t = .glowTrigger
  · subst glow
    match k with
    | 0 | 1 | _ + 2 => simp [PollingBlinkWrites, taskStep, glowTriggerStep]
  by_cases alarm : t = .alarmTrigger
  · subst alarm
    match k with
    | 0 | 1 | _ + 2 => simp [PollingBlinkWrites, taskStep, alarmTriggerStep]
  obtain ⟨-, ⟨ga, gc, gp⟩, aa, ac, ap⟩ := blinkCells_inj.mp (taskStep_blinkCells glow alarm k s)
  exact ⟨.inl ga, .inl gc, .inl gp, .inl aa, .inl ac, .inl ap⟩

/-- The changes the interrupt context may make to the blink cells. -/
def HandlerBlinkWrites (s u : State) : Prop :=
  (u.glowArmed = s.glowArmed ∨ u.glowArmed = false) ∧
  (u.glowCount = s.glowCount ∨ u.glowCount = s.glowCount - 1) ∧
  (u.glowPin = s.glowPin ∨ u.glowPin = false) ∧
  (u.alarmArmed = s.alarmArmed ∨ u.alarmArmed = false) ∧
  (u.alarmCount = s.alarmCount ∨ u.alarmCount = s.alarmCount + 1) ∧
  (u.alarmPin = s.alarmPin ∨ u.alarmPin = !s.alarmPin ∨ u.alarmPin = false)

theorem HandlerBlinkWrites.of_cells {s u : State}
    (same : (blinkCells u).2 = (blinkCells s).2) : HandlerBlinkWrites s u := by
  simp only [blinkCells, glowCells, alarmCells, Prod.mk.injEq] at same
  obtain ⟨⟨ga, gc, gp⟩, aa, ac, ap⟩ := same
  exact ⟨.inl ga, .inl gc, .inl gp, .inl aa, .inl ac, .inl ap⟩

/-- What MUX_STEP's pattern step does: SEG or a fault. -/
theorem muxPattern_frame (s : State) :
    (muxPattern s).1 = { s with seg := (muxPattern s).1.seg, faults := (muxPattern s).1.faults } := by
  unfold muxPattern
  (repeat' split) <;> rfl

/-- A task of the handler writes the tick-side cells and the record of faults, and nothing else. -/
theorem tickTaskStep_frame (t : TickTask) (k : Nat) (s : State) :
    (tickTaskStep t k s).1 = { s with
      glowArmed := (tickTaskStep t k s).1.glowArmed, glowCount := (tickTaskStep t k s).1.glowCount,
      glowPin := (tickTaskStep t k s).1.glowPin, alarmArmed := (tickTaskStep t k s).1.alarmArmed,
      alarmCount := (tickTaskStep t k s).1.alarmCount, alarmPin := (tickTaskStep t k s).1.alarmPin,
      tickPending := (tickTaskStep t k s).1.tickPending, paceCount := (tickTaskStep t k s).1.paceCount,
      digitSlot := (tickTaskStep t k s).1.digitSlot, an := (tickTaskStep t k s).1.an,
      seg := (tickTaskStep t k s).1.seg, faults := (tickTaskStep t k s).1.faults } := by
  cases t with
  | pace => simp only [tickTaskStep, paceStep]; split <;> rfl
  | effect | ack => rfl
  | glow => simp only [tickTaskStep, glowStep_eq, glowed]; (repeat' split) <;> rfl
  | alarm => simp only [tickTaskStep, alarmStep]; (repeat' split) <;> rfl
  | mux =>
    match k with
    | 0 | 2 | _ + 3 => rfl
    | 1 => simp only [tickTaskStep, muxStep]; rw [muxPattern_frame]

theorem tickTaskStep_blinkWrites (t : TickTask) (k : Nat) (s : State) :
    HandlerBlinkWrites s (tickTaskStep t k s).1 := by
  cases t with
  | pace =>
    refine .of_cells ?_
    simp only [tickTaskStep, paceStep]
    split <;> rfl
  | effect | ack => exact .of_cells rfl
  | glow =>
    simp only [tickTaskStep, glowStep_eq, glowed, HandlerBlinkWrites]
    split
    · split
      · simp; omega
      · simp
    · simp
  | alarm =>
    simp only [tickTaskStep, alarmStep, HandlerBlinkWrites]
    (repeat' split) <;> simp
  | mux =>
    match k with
    | 0 | 2 | _ + 3 => exact .of_cells rfl
    | 1 => simp only [tickTaskStep, muxStep]; rw [muxPattern_frame]; exact .of_cells rfl

end Sys2Proof.Machine

namespace Sys2Proof.SharedState

open Sys2Proof.Machine

/-- Settles O42: the writes of each task, by the tasks that have any. -/
theorem accessMatrix : Obligations.AccessMatrix := by
  refine ⟨fun s s' _ h => ?_, fun s s' _ h => ?_⟩
  · obtain ⟨t, rest, a, -, -, rfl⟩ := pollStep_cases h
    obtain ⟨ga, gc, gp, aa, ac, ap⟩ := taskStep_blinkWrites t s.poll.stage s
    exact ⟨ga, gc, gp, aa, ac, ap, tickSide_inj.mp (taskStep_tickSide t s.poll.stage s)⟩
  · obtain ⟨t, rest, a, -, -, rfl⟩ := tickStep_cases h
    obtain ⟨ga, gc, gp, aa, ac, ap⟩ := tickTaskStep_blinkWrites t s.tick.stage s
    exact ⟨ga, gc, gp, aa, ac, ap,
      congrArg (fun u : State => { u with tick := a }) (tickTaskStep_frame t s.tick.stage s)⟩

end Sys2Proof.SharedState

namespace Sys2Proof.Machine

/-! ## The blink invariant (10_state R44, B1 and B2) -/

/-- After a micro-step the agenda's first task is not begun, or it is the one in progress, one micro-step further. -/
theorem agenda_cases {α : Type} {t : α} {rest : List α} {k : Nat} {c : Ctl α} {a : Agenda α}
    (h : c.agenda t rest k = some a) : a.stage = 0 ∨ c = .again ∧ a = ⟨t :: rest, k + 1⟩ := by
  cases c <;> cases h <;> simp [Agenda.idle]

theorem inTrigger_cons {s : State} {t u : Task} {rest : List Task} {k : Nat}
    (h : s.poll.todo = u :: rest) : InTrigger t k s ↔ u = t ∧ k ≤ s.poll.stage := by
  simp [InTrigger, h]

theorem not_inTrigger_of_stage {s : State} {t : Task} {k : Nat} (h : s.poll.stage < k) :
    ¬ InTrigger t k s := fun inside => absurd inside.2 (Nat.not_le.mpr h)

theorem not_inAlarmStep_of_stage {s : State} (h : s.tick.stage = 0) : ¬ InAlarmStep s :=
  fun inside => absurd inside.2 (by omega)

/-- The invariant reads the blink cells, and of the contexts' places how far a trigger and an ALARM_STEP are. -/
theorem BlinkInv.of_cells {s u : State} (h : BlinkInv s) (cells : blinkCells u = blinkCells s)
    (glow : InTrigger .glowTrigger 1 s → InTrigger .glowTrigger 1 u)
    (alarm : InTrigger .alarmTrigger 1 s → InTrigger .alarmTrigger 1 u)
    (zeroed : InTrigger .alarmTrigger 2 u → InTrigger .alarmTrigger 2 s)
    (flipped : InAlarmStep u → InAlarmStep s) : BlinkInv u := by
  obtain ⟨pace, ⟨ga, gc, gp⟩, aa, ac, ap⟩ := blinkCells_inj.mp cells
  refine ⟨?_, ?_, ?_, ?_, ?_, ?_, ?_, ?_⟩
  · exact pace ▸ h.pace
  · rw [ga, gp]; exact fun idle out => h.glowIdle idle (mt glow out)
  · rw [aa, ap]; exact fun idle out => h.alarmIdle idle (mt alarm out)
  · exact gc ▸ h.glowRange
  · exact ac ▸ h.alarmRange
  · rw [aa, ac]; exact h.alarmArmedRange
  · rw [aa, ac]; exact fun inside => h.alarmZeroed (zeroed inside)
  · rw [aa]; exact fun inside => h.alarmFlipped (flipped inside)

theorem BlinkInv.of_tick {s u : State} (h : BlinkInv s) (cells : blinkCells u = blinkCells s)
    (poll : u.poll = s.poll) (out : ¬ InAlarmStep u) : BlinkInv u := by
  refine h.of_cells cells ?_ ?_ ?_ fun inside => absurd inside out
  all_goals simp only [InTrigger, poll]; exact id

section

variable {s : State} {rest : List Task} {a : Agenda Task} (h : BlinkInv s)

include h

/-- A micro-step of GLOW_TRIGGER: what it writes to the Glow is in range, and the flag comes last. -/
theorem BlinkInv.of_glowTrigger (todo : s.poll.todo = .glowTrigger :: rest)
    (agenda : (taskStep .glowTrigger s.poll.stage s).2.agenda .glowTrigger rest s.poll.stage = some a) :
    BlinkInv { (taskStep .glowTrigger s.poll.stage s).1 with poll := a } := by
  have alarmIdle (off : s.alarmArmed = false) : s.alarmPin = false :=
    h.alarmIdle off (by simp [inTrigger_cons todo])
  generalize s.poll.stage = k at agenda ⊢
  match k with
  | 0 =>
    cases agenda
    exact { h with
      glowIdle := fun _ out => absurd ⟨rfl, le_rfl⟩ out
      alarmIdle := fun off _ => alarmIdle off
      alarmZeroed := fun inside => by cases inside.1 }
  | 1 =>
    cases agenda
    exact { h with
      glowIdle := fun _ out => absurd ⟨rfl, Nat.le_succ 1⟩ out
      alarmIdle := fun off _ => alarmIdle off
      glowRange := le_rfl
      alarmZeroed := fun inside => by cases inside.1 }
  | _ + 2 =>
    cases agenda
    exact { h with
      glowIdle := fun off => by cases off
      alarmIdle := fun off _ => alarmIdle off
      alarmZeroed := fun inside => absurd inside (not_inTrigger_of_stage Nat.two_pos) }

/-- A micro-step of ALARM_TRIGGER: the count is 0 before the flag is set. -/
theorem BlinkInv.of_alarmTrigger (todo : s.poll.todo = .alarmTrigger :: rest)
    (agenda : (taskStep .alarmTrigger s.poll.stage s).2.agenda .alarmTrigger rest s.poll.stage = some a) :
    BlinkInv { (taskStep .alarmTrigger s.poll.stage s).1 with poll := a } := by
  have glowIdle (off : s.glowArmed = false) : s.glowPin = false :=
    h.glowIdle off (by simp [inTrigger_cons todo])
  generalize stage : s.poll.stage = k at agenda ⊢
  match k with
  | 0 =>
    cases agenda
    exact { h with
      glowIdle := fun off _ => glowIdle off
      alarmIdle := fun _ out => absurd ⟨rfl, le_rfl⟩ out
      alarmZeroed := fun inside => absurd inside (not_inTrigger_of_stage Nat.one_lt_two) }
  | 1 =>
    cases agenda
    exact { h with
      glowIdle := fun off _ => glowIdle off
      alarmIdle := fun _ out => absurd ⟨rfl, Nat.le_succ 1⟩ out
      alarmRange := Nat.zero_le _
      alarmArmedRange := fun _ => Nat.zero_le _
      alarmZeroed := fun _ => ⟨Nat.zero_le _, fun _ => (by decide : 0 < Config.alarmBudget)⟩ }
  | k + 2 =>
    cases agenda
    have zeroed := h.alarmZeroed ((inTrigger_cons todo).mpr ⟨rfl, by omega⟩)
    exact { h with
      glowIdle := fun off _ => glowIdle off
      alarmIdle := fun off => by cases off
      alarmArmedRange := fun _ => zeroed.1
      alarmZeroed := fun inside => absurd inside (not_inTrigger_of_stage Nat.two_pos)
      alarmFlipped := fun _ => rfl }

/-- Any other task writes no blink cell and is no trigger. -/
theorem BlinkInv.of_otherTask {t : Task} (glow : t ≠ .glowTrigger) (alarm : t ≠ .alarmTrigger)
    (todo : s.poll.todo = t :: rest)
    (agenda : (taskStep t s.poll.stage s).2.agenda t rest s.poll.stage = some a) :
    BlinkInv { (taskStep t s.poll.stage s).1 with poll := a } := by
  have tick : (taskStep t s.poll.stage s).1.tick = s.tick := taskStep_tick t _ s
  have out : ¬ InTrigger .alarmTrigger 2 { (taskStep t s.poll.stage s).1 with poll := a } := by
    rcases agenda_cases agenda with begun | ⟨-, rfl⟩
    · exact not_inTrigger_of_stage (by simp [begun])
    · rw [inTrigger_cons rfl]
      exact fun inside => alarm inside.1
  refine h.of_cells (taskStep_blinkCells glow alarm s.poll.stage s) ?_ ?_ (fun inside => absurd inside out) ?_
  · rw [inTrigger_cons todo]
    exact fun inside => absurd inside.1 glow
  · rw [inTrigger_cons todo]
    exact fun inside => absurd inside.1 alarm
  · simp only [InAlarmStep, tick]
    exact id

end

theorem BlinkInv.of_pollStep {s u : State} (step : pollStep s = some u) (h : BlinkInv s) : BlinkInv u := by
  obtain ⟨t, rest, a, todo, agenda, rfl⟩ := pollStep_cases step
  by_cases glow : t = .glowTrigger
  · subst glow
    exact h.of_glowTrigger todo agenda
  by_cases alarm : t = .alarmTrigger
  · subst alarm
    exact h.of_alarmTrigger todo agenda
  exact h.of_otherTask glow alarm todo agenda

/-! ### The handler's tasks -/

/-- GLOW_STEP disarms and forces the pin inactive together. -/
theorem BlinkInv.of_glowed {s : State} {rest : List TickTask} (h : BlinkInv s) :
    BlinkInv { glowed s with tick := ⟨rest, 0⟩ } := by
  have count := h.glowRange
  have out (u : State) (begun : u.tick.stage = 0) : InAlarmStep u → u.alarmArmed = true :=
    fun inside => absurd inside (not_inAlarmStep_of_stage begun)
  unfold glowed
  split
  · split
    · exact { h with
        glowIdle := fun _ _ => rfl
        glowRange := Nat.zero_le _
        alarmFlipped := out _ rfl }
    · exact { h with
        glowRange := (Nat.sub_le _ _).trans count
        alarmFlipped := out _ rfl }
  · exact h.of_tick rfl rfl (not_inAlarmStep_of_stage rfl)

/-- A micro-step of ALARM_STEP: the flip, or the count, which at the budget disarms and forces the pin inactive. -/
theorem BlinkInv.of_alarmStep {s : State} {rest : List TickTask} {a : Agenda TickTask} (h : BlinkInv s)
    (todo : s.tick.todo = .alarm :: rest)
    (agenda : (alarmStep s.tick.stage s).2.agenda .alarm rest s.tick.stage = some a) :
    BlinkInv { (alarmStep s.tick.stage s).1 with tick := a } := by
  have flipped (begun : 1 ≤ s.tick.stage) : s.alarmArmed = true := h.alarmFlipped ⟨by rw [todo]; rfl, begun⟩
  generalize s.tick.stage = k at agenda flipped ⊢
  match k with
  | 0 =>
    by_cases armed : s.alarmArmed = true
    · rw [show alarmStep 0 s = _ from if_pos armed] at agenda ⊢
      cases agenda
      exact { h with
        alarmIdle := fun off => by cases armed.symm.trans off
        alarmFlipped := fun _ => armed }
    · rw [show alarmStep 0 s = _ from if_neg armed] at agenda ⊢
      cases agenda
      exact h.of_tick rfl rfl (not_inAlarmStep_of_stage rfl)
  | k + 1 =>
    have armed := flipped (by omega)
    have range := h.alarmArmedRange armed
    have zeroed := h.alarmZeroed
    by_cases last : alarmBudgetReached (s.alarmCount + 1) = true
    · rw [show alarmStep (k + 1) s = _ from if_pos last] at agenda ⊢
      cases agenda
      exact { h with
        alarmIdle := fun _ _ => rfl
        alarmRange := Nat.succ_le_succ range
        alarmArmedRange := fun on => by cases on
        alarmZeroed := fun inside => ⟨(zeroed inside).2 armed, fun on => by cases on⟩
        alarmFlipped := fun inside => absurd inside (not_inAlarmStep_of_stage rfl) }
    · rw [show alarmStep (k + 1) s = _ from if_neg last] at agenda ⊢
      cases agenda
      have below : s.alarmCount + 1 < Config.alarmBudget := by simpa [alarmBudgetReached] using last
      exact { h with
        alarmIdle := fun off => by cases armed.symm.trans off
        alarmRange := below.le.trans (Nat.le_succ _)
        alarmArmedRange := fun _ => below.le
        alarmZeroed := fun _ => ⟨below.le, fun _ => below⟩
        alarmFlipped := fun _ => armed }

/-- PACE_STEP keeps PaceCount below EFFECT_DIV. -/
theorem BlinkInv.of_paceStep {s : State} {rest : List TickTask} {a : Agenda TickTask} (h : BlinkInv s)
    (agenda : (paceStep s).2.agenda .pace rest s.tick.stage = some a) :
    BlinkInv { (paceStep s).1 with tick := a } := by
  have out : ∀ u : State, u.tick.stage = 0 → InAlarmStep u → u.alarmArmed = true :=
    fun _ begun inside => absurd inside (not_inAlarmStep_of_stage begun)
  by_cases due : effectTickDue s.paceCount = true
  · rw [show paceStep s = _ from if_pos due] at agenda ⊢
    cases agenda
    exact { h with
      pace := (by decide : 0 < Config.effectDiv)
      alarmFlipped := out _ rfl }
  · rw [show paceStep s = _ from if_neg due] at agenda ⊢
    cases agenda
    exact { h with
      pace := by simpa [effectTickDue] using due
      alarmFlipped := out _ rfl }

theorem BlinkInv.of_tickStep {s u : State} (step : tickStep s = some u) (h : BlinkInv s) : BlinkInv u := by
  obtain ⟨t, rest, a, todo, agenda, rfl⟩ := tickStep_cases step
  cases t with
  | pace => exact h.of_paceStep agenda
  | effect | ack =>
    cases agenda
    exact h.of_tick rfl rfl (not_inAlarmStep_of_stage rfl)
  | glow =>
    simp only [tickTaskStep, glowStep_eq] at agenda ⊢
    cases agenda
    exact h.of_glowed
  | alarm => exact h.of_alarmStep todo agenda
  | mux =>
    have cells : blinkCells (muxStep s.tick.stage s).1 = blinkCells s := by
      unfold muxStep
      split
      · rfl
      · rw [muxPattern_frame]; rfl
      · rfl
      · rfl
    refine h.of_tick cells (tickTaskStep_poll .mux s.tick.stage s) ?_
    rcases agenda_cases agenda with begun | ⟨-, rfl⟩
    · exact not_inAlarmStep_of_stage begun
    · simp [InAlarmStep]

theorem blinkInv_reset : BlinkInv State.reset where
  pace := by decide
  glowIdle _ _ := rfl
  alarmIdle _ _ := rfl
  glowRange := by decide
  alarmRange := by decide
  alarmArmedRange := by decide
  alarmZeroed := fun inside => absurd inside (not_inTrigger_of_stage (by decide))
  alarmFlipped := fun inside => absurd inside (not_inAlarmStep_of_stage rfl)

/-- An operation put behind those begun, or begun, changes nothing of how far a trigger is. -/
theorem inTrigger_givePoll {s : State} {t u : Task} {k : Nat} :
    InTrigger t (k + 1) (givePoll u s) ↔ InTrigger t (k + 1) s := by
  cases todo : s.poll.todo <;> simp [InTrigger, givePoll, Agenda.push, todo]

theorem kept_blinkInv : Kept BlinkInv where
  sched _ _ _ h := h.of_cells rfl id id id id
  give _ _ h := h.of_cells rfl inTrigger_givePoll.mpr inTrigger_givePoll.mpr inTrigger_givePoll.mp id
  loop _ idle h := h.of_cells rfl (fun inside => by simp [InTrigger, idle] at inside)
    (fun inside => by simp [InTrigger, idle] at inside)
    (fun inside => absurd inside (not_inTrigger_of_stage Nat.two_pos)) id
  poll _ _ _ step h := h.of_pollStep step
  begin _ _ _ h := h.of_tick rfl rfl (not_inAlarmStep_of_stage rfl)
  tick _ _ step h := h.of_tickStep step
  fire _ h := h.of_cells rfl id id id id
  key _ _ _ _ h := h.of_cells rfl id id id id
  switch _ _ h := h.of_cells rfl id id id id
  reset _ _ := blinkInv_reset.of_cells rfl id id id id

/-! ## The canonical form of the fault set (log 19) -/

/-- The record is as it was, or has one fault more. -/
theorem wf_of_faults {s u : State} (h : s.faults.wf)
    (faults : u.faults = s.faults ∨ ∃ f, u.faults = s.faults.add f) : u.faults.wf := by
  rcases faults with same | ⟨f, added⟩
  · rwa [same]
  · rw [added]
    exact add_wf _ f h

theorem kept_faults_wf : Kept fun s => s.faults.wf where
  sched _ _ _ h := h
  give _ _ h := h
  loop _ _ h := h
  poll _ _ _ step h := wf_of_faults h ((pollStep_faults step).imp id fun raised =>
    ⟨.bootOrder, congrArg State.faults raised⟩)
  begin _ _ _ h := h
  tick _ _ step h := wf_of_faults h ((tickStep_faults step).imp id fun ⟨f, raised⟩ =>
    ⟨f, congrArg State.faults raised⟩)
  fire _ h := h
  key _ _ _ _ h := h
  switch _ _ h := h
  reset _ _ := ⟨.nil, .nil⟩

/-! ## The multiplexing invariant (10_state R44, M1 and M2) -/

theorem muxInv_of_not_mux {s : State} (h : s.tick.todo.head? ≠ some .mux) : MuxInv s ↔ AnodeOfLastSlot s := by
  unfold MuxInv
  split <;> simp_all

theorem muxInv_of_begun {s : State} (h : s.tick.stage = 0) : MuxInv s ↔ AnodeOfLastSlot s := by
  unfold MuxInv
  split <;> simp_all

/-- The invariant reads AN, DigitSlot and the interrupt context's place. -/
theorem MuxInv.of_fields {s u : State} (h : MuxInv s) (an : u.an = s.an) (slot : u.digitSlot = s.digitSlot)
    (tick : u.tick = s.tick) : MuxInv u := by
  unfold MuxInv AnodeOfLastSlot at h ⊢
  rw [an, slot, tick]
  exact h

/-- A handler's task that is not MUX_STEP writes neither AN nor DigitSlot. -/
theorem tickTaskStep_anode {t : TickTask} (other : t ≠ .mux) (k : Nat) (s : State) :
    (tickTaskStep t k s).1.an = s.an ∧ (tickTaskStep t k s).1.digitSlot = s.digitSlot := by
  cases t with
  | pace => simp only [tickTaskStep, paceStep]; split <;> exact ⟨rfl, rfl⟩
  | effect | ack => exact ⟨rfl, rfl⟩
  | glow => simp only [tickTaskStep, glowStep_eq, glowed]; (repeat' split) <;> exact ⟨rfl, rfl⟩
  | alarm => simp only [tickTaskStep, alarmStep]; (repeat' split) <;> exact ⟨rfl, rfl⟩
  | mux => exact absurd rfl other

/-- A micro-step of MUX_STEP, in the order of its writes. -/
theorem MuxInv.of_muxStep {s : State} {rest : List TickTask} {a : Agenda TickTask} (h : MuxInv s)
    (todo : s.tick.todo = .mux :: rest)
    (agenda : (muxStep s.tick.stage s).2.agenda .mux rest s.tick.stage = some a) :
    MuxInv { (muxStep s.tick.stage s).1 with tick := a } := by
  unfold MuxInv at h
  rw [todo] at h
  generalize s.tick.stage = k at agenda h ⊢
  match k with
  | 0 => cases agenda; exact rfl
  | 1 =>
    simp only [muxStep] at agenda ⊢
    rw [muxPattern_frame]
    rcases agenda_cases agenda with begun | ⟨-, rfl⟩
    · exact (muxInv_of_begun begun).mpr (.inl h)
    · exact h
  | 2 => cases agenda; exact rfl
  | k + 3 =>
    cases agenda
    refine (muxInv_of_begun rfl).mpr (.inr ?_)
    simp only [muxStep, BitVec.add_sub_cancel]
    exact h

theorem MuxInv.of_tickStep {s u : State} (step : tickStep s = some u) (h : MuxInv s) : MuxInv u := by
  obtain ⟨t, rest, a, todo, agenda, rfl⟩ := tickStep_cases step
  by_cases mux : t = .mux
  · subst mux
    exact h.of_muxStep todo agenda
  · obtain ⟨an, slot⟩ := tickTaskStep_anode mux s.tick.stage s
    have last : AnodeOfLastSlot s := (muxInv_of_not_mux (by simp [todo, mux])).mp h
    have after : AnodeOfLastSlot { (tickTaskStep t s.tick.stage s).1 with tick := a } := by
      unfold AnodeOfLastSlot at last ⊢
      rwa [an, slot]
    rcases agenda_cases agenda with begun | ⟨-, rfl⟩
    · exact (muxInv_of_begun begun).mpr after
    · exact (muxInv_of_not_mux (by simp [mux])).mpr after

theorem kept_muxInv : Kept MuxInv where
  sched _ _ _ h := h
  give _ _ h := h
  loop _ _ h := h
  poll s s' _ step h := by
    obtain ⟨t, rest, a, -, -, rfl⟩ := pollStep_cases step
    obtain ⟨-, -, slot, an, -⟩ := tickSide_inj.mp (taskStep_tickSide t s.poll.stage s)
    exact h.of_fields an slot (taskStep_tick t s.poll.stage s)
  begin s _ idle h := by
    have last : AnodeOfLastSlot s := (muxInv_of_not_mux (by simp [idle])).mp h
    exact (muxInv_of_begun rfl).mpr last
  tick _ _ step h := h.of_tickStep step
  fire _ h := h
  key _ _ _ _ h := h
  switch _ _ h := h
  reset _ _ := .inl rfl

theorem atMostOneAnode_of_eq {an : BitVec 4} (h : an = 0 ∨ ∃ i, an = onehot i) : AtMostOneAnode an := by
  rcases h with rfl | ⟨i, rfl⟩
  · intro i j hi
    simp [bitAt] at hi
  · intro j k hj hk
    rw [bitAt_onehot, decide_eq_true_eq] at hj hk
    rw [hj, hk]

/-- In each case of the invariant AN is 0000 or one-hot. -/
theorem MuxInv.atMostOneAnode {s : State} (h : MuxInv s) : AtMostOneAnode s.an := by
  refine atMostOneAnode_of_eq ?_
  unfold MuxInv at h
  split at h
  · exact h.imp id fun last => ⟨_, last⟩
  · exact .inl h
  · exact .inl h
  · exact .inr ⟨_, h⟩
  · exact h.imp id fun last => ⟨_, last⟩

/-! ## What KEY_SCAN returned (43_keypad_scanner R170) -/

theorem keyResultLegal_of_eq {s u : State} (h : KeyResultLegal s) (same : u.keyResult = s.keyResult) :
    KeyResultLegal u := by
  rwa [KeyResultLegal, same]

/-- A scan's last round without a hit returns NOKEY, its return the code of KS_HIT; no other task returns a key. -/
theorem keyResultLegal_taskStep (t : Task) (k : Nat) {s : State} (h : KeyResultLegal s) :
    KeyResultLegal (taskStep t k s).1 := by
  cases t with
  | scanRestore =>
    simp only [taskStep, scanRestoreStep, setRow]
    split
    · split
      · exact .inl rfl
      · exact h
    · exact h
  | scanReturn =>
    simp only [taskStep, scanReturnStep]
    split
    · exact .inr ⟨_, _, rfl⟩
    · exact .inl rfl
  | dvCurrency =>
    obtain ⟨w, n, shown, -⟩ := writeDisplayCurrency_spec s
    have same : (writeDisplayCurrency s).keyResult = s.keyResult := by rw [shown]
    exact keyResultLegal_of_eq h same
  | entAdvance e => cases e <;> exact h
  | glowTrigger | alarmTrigger =>
    match k with
    | 0 | 1 | _ + 2 => exact h
  | releaseWait =>
    simp only [taskStep, releaseWaitStep, selectReleaseRows]
    (repeat' split) <;> exact h
  | tickStart | keyScan | stepEnd | collectCheck | hazardCheck | storePurchase | menuRoute | modeselRoute
  | storeRoute =>
    simp only [taskStep, tickStartStep, keyScanStep, stepEndStep, collectCheckStep, hazardCheckStep,
      storePurchaseStep, menuRouteStep, modeselRouteStep, storeRouteStep]
    (repeat' split) <;> exact h
  | _ => exact h

theorem kept_keyResultLegal : Kept KeyResultLegal where
  sched _ _ _ h := h
  give _ _ h := h
  loop _ _ h := h
  poll _ _ _ step h := by
    obtain ⟨t, rest, a, -, -, rfl⟩ := pollStep_cases step
    exact keyResultLegal_taskStep t _ h
  begin _ _ _ h := h
  tick s _ step h := by
    obtain ⟨t, rest, a, -, -, rfl⟩ := tickStep_cases step
    have same : (tickTaskStep t s.tick.stage s).1.keyResult = s.keyResult := by
      rw [tickTaskStep_frame]
    exact keyResultLegal_of_eq h same
  fire _ h := h
  key _ _ _ _ h := h
  switch _ _ h := h
  reset _ _ := .inl rfl

end Sys2Proof.Machine

namespace Sys2Proof.Invariants

open Sys2Proof.Machine

/-- Settles O21: every agent's moves keep the invariant, and the record of faults in canonical form. -/
theorem blinkInvKept : Obligations.BlinkInvKept :=
  ⟨fun s s' _ h step => kept_blinkInv.step s s' step h, fun s s' h step => kept_faults_wf.step s s' step h⟩

/-- Settles O22: MUX_STEP's writes come in the order the invariant names, and nothing else writes an anode. -/
theorem muxInvKept : Obligations.MuxInvKept :=
  ⟨fun s s' _ h step => kept_muxInv.step s s' step h, fun _ => MuxInv.atMostOneAnode⟩

end Sys2Proof.Invariants

namespace Sys2Proof.Machine

/-! ## The scanner invariant (10_state R44, K1) -/

/-- The invariant reads the polling context's place, ROW and the scan's registers. -/
theorem ScannerInv.of_fields {s u : State} (h : ScannerInv s) (poll : u.poll = s.poll) (row : u.row = s.row)
    (phase : u.ksPhase = s.ksPhase) (ksRow : u.ksRow = s.ksRow) (hit : u.ksHit = s.ksHit) : ScannerInv u := by
  unfold ScannerInv at h ⊢
  rw [poll, row, phase, ksRow, hit]
  exact h

theorem noRowTask_nil : NoRowTask [] := List.forall_mem_nil _

theorem noRowTask_cons {t : Task} {ts : List Task} :
    NoRowTask (t :: ts) ↔ rowTask t = false ∧ NoRowTask ts := List.forall_mem_cons

theorem NoRowTask.append {ts us : List Task} (h : NoRowTask ts) (h' : NoRowTask us) : NoRowTask (ts ++ us) :=
  List.forall_mem_append.mpr ⟨h, h'⟩

/-- With no part of a scan to be done, no row is selected and the scanner is idle. -/
theorem scannerInv_iff {s : State} (h : NoRowTask s.poll.todo) : ScannerInv s ↔ s.row = 0 ∧ s.ksPhase = .idle := by
  unfold ScannerInv
  split
  case h_8 => exact and_iff_right h
  all_goals
    rename_i todo
    rw [todo, noRowTask_cons] at h
    cases h.1

section

variable {t : Task} {k : Nat} {s : State} (noRow : rowTask t = false) (scan : t ≠ .keyScan)

include noRow scan

/-- Only KEY_SCAN brings tasks of the scan. -/
theorem noRowTask_parts {parts : List Task} (h : (taskStep t k s).2 = .into parts) : NoRowTask parts := by
  cases t with
  | scanDrive | scanSettle | scanSample | scanRestore | scanQuiet | scanReturn | rowDrive | rowRestore
  | releaseWait => cases noRow
  | keyScan => exact absurd rfl scan
  | gameBoot | menuIter | modeselIter | playStep | storeIter => cases h; simp [NoRowTask, rowTask]
  | tickStart | stepEnd | collectCheck | hazardCheck | storePurchase | menuRoute | modeselRoute | storeRoute =>
    simp only [taskStep, tickStartStep, stepEndStep, collectCheckStep, hazardCheckStep, storePurchaseStep,
      menuRouteStep, modeselRouteStep, storeRouteStep] at h
    (repeat' split at h) <;> cases h <;> simp [NoRowTask, rowTask]
  | entAdvance e => cases e <;> cases h
  | glowTrigger | alarmTrigger =>
    match k with
    | 0 | 1 | _ + 2 => cases h
  | _ => cases h

/-- Outside KEY_SCAN and its parts no task of the polling context moves a row line or the scanner's phase. -/
theorem taskStep_row : (taskStep t k s).1.row = s.row ∧ (taskStep t k s).1.ksPhase = s.ksPhase := by
  cases t with
  | scanDrive | scanSettle | scanSample | scanRestore | scanQuiet | scanReturn | rowDrive | rowRestore
  | releaseWait => cases noRow
  | keyScan => exact absurd rfl scan
  | dvCurrency =>
    obtain ⟨w, n, shown, -⟩ := writeDisplayCurrency_spec s
    simp only [taskStep, dvCurrencyStep, shown, and_self]
  | tickStart | stepEnd | collectCheck | hazardCheck | storePurchase | menuRoute | modeselRoute | storeRoute =>
    simp only [taskStep, tickStartStep, stepEndStep, collectCheckStep, hazardCheckStep, storePurchaseStep,
      menuRouteStep, modeselRouteStep, storeRouteStep]
    (repeat' split) <;> exact ⟨rfl, rfl⟩
  | entAdvance e => cases e <;> exact ⟨rfl, rfl⟩
  | glowTrigger | alarmTrigger =>
    match k with
    | 0 | 1 | _ + 2 => exact ⟨rfl, rfl⟩
  | _ => exact ⟨rfl, rfl⟩

theorem noRowTask_agenda {rest : List Task} {a : Agenda Task} (others : NoRowTask rest)
    (agenda : (taskStep t k s).2.agenda t rest k = some a) : NoRowTask a.todo := by
  have parts := @noRowTask_parts t k s noRow scan
  generalize (taskStep t k s).2 = c at agenda parts
  cases c with
  | done => cases agenda; exact others
  | again => cases agenda; exact noRowTask_cons.mpr ⟨noRow, others⟩
  | into ts => cases agenda; exact (parts rfl).append others
  | hold => cases agenda
  | raised => cases agenda; exact noRowTask_nil

end

theorem setBitAt_zero_true (r : BitVec 2) : setBitAt 0 r true = onehot r := by revert r; decide

theorem setBitAt_onehot_false (r : BitVec 2) : setBitAt (onehot r) r false = 0 := by revert r; decide

section

variable {s u : State} {rest : List Task}

/-- A micro-step outside a scan, KEY_SCAN's own entry among them. -/
theorem ScannerInv.of_pollStep_outside (todo : NoRowTask s.poll.todo) (step : pollStep s = some u)
    (h : ScannerInv s) : ScannerInv u := by
  obtain ⟨unselected, idle⟩ := (scannerInv_iff todo).mp h
  obtain ⟨t, rest, a, first, agenda, rfl⟩ := pollStep_cases step
  rw [first, noRowTask_cons] at todo
  obtain ⟨noRow, others⟩ := todo
  by_cases scan : t = .keyScan
  · subst scan
    by_cases pins : s.pinsConfigured = true
    · rw [show taskStep .keyScan s.poll.stage s = _ from if_pos pins] at agenda ⊢
      cases agenda
      exact ⟨others, unselected, rfl⟩
    · rw [show taskStep .keyScan s.poll.stage s = _ from if_neg pins] at agenda ⊢
      cases agenda
      exact (scannerInv_iff noRowTask_nil).mpr ⟨unselected, idle⟩
  · obtain ⟨row, phase⟩ := taskStep_row (k := s.poll.stage) (s := s) noRow scan
    exact (scannerInv_iff (noRowTask_agenda noRow scan others agenda)).mpr
      ⟨row.trans unselected, phase.trans idle⟩

/-- ROW_RESTORE of the row scanned: the next round, the scan's end, or its release-wait. -/
theorem ScannerInv.of_scanRestore (todo : s.poll.todo = .scanRestore :: rest) (step : pollStep s = some u)
    (h : ScannerInv s) : ScannerInv u := by
  unfold ScannerInv at h
  rw [todo] at h
  obtain ⟨others, selected, phase⟩ := h
  have restored : setBitAt s.row (Config.rowOrder s.ksRow) false = 0 := by
    rw [selected, setBitAt_onehot_false]
  obtain ⟨t, rest', a, first, agenda, rfl⟩ := pollStep_cases step
  cases todo.symm.trans first
  simp only [taskStep, scanRestoreStep, setRow] at agenda ⊢
  split at agenda
  case isTrue none =>
    split at agenda
    case isTrue last =>
      cases agenda
      simp only [none, last, if_true]
      exact (scannerInv_iff others).mpr ⟨last ▸ restored, rfl⟩
    case isFalse more =>
      cases agenda
      simp only [none, more, if_true, if_false]
      exact ⟨others, restored, rfl⟩
  case isFalse hit =>
    cases agenda
    simp only [hit, if_false]
    exact ⟨others, rfl, _, _, rfl, restored⟩

/-- A micro-step of the release-wait. -/
theorem ScannerInv.of_releaseWait (todo : s.poll.todo = .releaseWait :: .scanQuiet :: .scanReturn :: rest)
    (step : pollStep s = some u) (h : ScannerInv s) : ScannerInv u := by
  unfold ScannerInv at h
  rw [todo] at h
  obtain ⟨others, phase, r, c, hit, selected⟩ := h
  obtain ⟨t, rest', a, first, agenda, rfl⟩ := pollStep_cases step
  cases todo.symm.trans first
  generalize s.poll.stage = k at agenda selected ⊢
  match k with
  | 0 =>
    rw [if_pos rfl] at selected
    cases agenda
    simp only [taskStep, releaseWaitStep, selectReleaseRows, hit, selected]
    exact ⟨others, phase, r, c, rfl, rfl⟩
  | 1 =>
    rw [if_neg one_ne_zero] at selected
    by_cases seen : s.columns = 0
    · rw [show taskStep .releaseWait 1 s = _ from if_pos seen] at agenda ⊢
      cases agenda
      exact ⟨others, phase, r, c, hit, selected⟩
    · rw [show taskStep .releaseWait 1 s = _ from if_neg seen] at agenda
      cases agenda
  | _ + 2 =>
    cases agenda
    exact ⟨others, rfl, phase⟩

theorem ScannerInv.of_pollStep (step : pollStep s = some u) (h : ScannerInv s) : ScannerInv u := by
  have inv := h
  unfold ScannerInv at inv
  split at inv
  case h_1 rest todo =>
    obtain ⟨others, unselected, -⟩ := inv
    rw [pollStep, todo] at step
    cases step
    have selected : setBitAt s.row (Config.rowOrder s.ksRow) true = onehot (Config.rowOrder s.ksRow) := by
      rw [unselected, setBitAt_zero_true]
    exact ⟨others, selected, rfl⟩
  case h_2 rest todo =>
    obtain ⟨others, selected, -⟩ := inv
    rw [pollStep, todo] at step
    cases step
    exact ⟨others, selected, rfl⟩
  case h_3 rest todo =>
    obtain ⟨others, selected, phase⟩ := inv
    rw [pollStep, todo] at step
    cases step
    exact ⟨others, selected, phase⟩
  case h_4 rest todo => exact h.of_scanRestore todo step
  case h_5 rest todo => exact h.of_releaseWait todo step
  case h_6 rest todo =>
    obtain ⟨others, unselected, -⟩ := inv
    rw [pollStep, todo] at step
    cases step
    exact ⟨others, unselected, rfl⟩
  case h_7 rest todo =>
    obtain ⟨others, unselected, -⟩ := inv
    have ended (key : Option (BitVec 2 × BitVec 2)) (code : Byte) :
        ScannerInv { s with ksPhase := .idle, ksHit := key, keyResult := code, poll := ⟨rest, 0⟩ } :=
      (scannerInv_iff others).mpr ⟨unselected, rfl⟩
    rw [pollStep, todo] at step
    cases hit : s.ksHit <;>
      · simp only [taskStep, scanReturnStep, hit] at step
        cases step
        exact ended _ _
  case h_8 => exact h.of_pollStep_outside inv.1 step

end

/-- What the Game Loop begins between two operations is no part of a scan. -/
theorem noRowTask_gameLoopNext (s : State) : NoRowTask (gameLoopNext s) := by
  unfold gameLoopNext
  (repeat' split) <;> simp [NoRowTask, rowTask]

theorem ScannerInv.pollingTurn {s : State} (h : ScannerInv s) : ScannerInv (pollingTurn s) := by
  unfold Machine.pollingTurn
  split
  · exact h
  case h_2 _ todo =>
    have outside : NoRowTask s.poll.todo := by simp [todo, NoRowTask]
    exact (scannerInv_iff (noRowTask_gameLoopNext s)).mpr ((scannerInv_iff outside).mp h)
  · cases step : pollStep s with
    | some u => exact h.of_pollStep step
    | none => exact h

theorem ScannerInv.takeTurn {s : State} (m : Mover) (h : ScannerInv s) : ScannerInv (takeTurn m s) := by
  cases m with
  | timer | key | switch => exact h
  | interrupt =>
    rw [takeTurn_eq_withScannerOf (.inr rfl)]
    exact h.of_fields rfl rfl rfl rfl rfl
  | polling => exact h.pollingTurn

end Sys2Proof.Machine

namespace Sys2Proof.Invariants

open Sys2Proof.Machine

/-- Settles O23: a step without a script is one agent's turn, and the polling context's turns follow the scan. -/
theorem scannerInvKept : Obligations.ScannerInvKept := by
  intro s s' _ script h step
  rw [step_of_no_script script] at step
  cases step
  exact ScannerInv.takeTurn _ (h.of_fields rfl rfl rfl rfl rfl)

/-- Settles O24: the values of the state after reset, field by field. -/
theorem invariantsAtReset : Obligations.InvariantsAtReset :=
  ⟨blinkInv_reset, ⟨.nil, .nil⟩, .inl rfl, (scannerInv_iff noRowTask_nil).mpr ⟨rfl, rfl⟩, .inl rfl,
    ⟨rfl, rfl, rfl⟩, Nat.zero_le _⟩

end Sys2Proof.Invariants

namespace Sys2Proof.Machine

/-! ## The handler's parts as operations (40_tick_source) -/

theorem exec_alarmStep {s : State} (ht : s.tick = Agenda.idle) : exec .alarmStep s = .next (alarmed s) :=
  congrArg Host.Outcome.next (performTick_alarm ht)

theorem exec_effectTick {s : State} (ht : s.tick = Agenda.idle) :
    exec .effectTick s = .next (alarmed (glowed s)) :=
  congrArg Host.Outcome.next (performTick_effect ht)

theorem exec_paceStep {s : State} (ht : s.tick = Agenda.idle) : exec .paceStep s = .next (paced s) :=
  congrArg Host.Outcome.next (performTick_pace ht)

theorem displayLegal_paced {s : State} : DisplayLegal (paced s) ↔ DisplayLegal s := by
  rw [DisplayLegal, paced_displayValue, DisplayLegal]

/-- A turn of the interrupt context inside a handler is the next micro-step of its first task. -/
theorem interruptTurn_of_tickTaskStep {t : TickTask} {rest : List TickTask} {k : Nat} {s u : State}
    {c : Ctl TickTask} {a : Agenda TickTask} (hs : s.tick = ⟨t :: rest, k⟩)
    (h : tickTaskStep t k s = (u, c)) (ha : c.agenda t rest k = some a) :
    interruptTurn s = { u with tick := a } := by
  simp [interruptTurn, tickStep, hs, h, ha]

theorem interruptTurn_of_tickStep {s u : State} (h : tickStep s = some u) : interruptTurn s = u := by
  obtain ⟨t, rest, -, todo, -, -⟩ := tickStep_cases h
  simp [interruptTurn, todo, h]

/-! ## MUX_STEP, write by write (42_display_mux R143, R146) -/

theorem muxPattern_legal {s : State} (h : DisplayLegal s) :
    muxPattern s = ({ s with seg := pattern s }, .again) := by
  have inRange : outOfRange s.displayValue = false := by simpa [outOfRange, DisplayLegal] using h
  simp [muxPattern, inRange, segRead_digit h]

theorem muxPattern_illegal {s : State} (h : ¬ DisplayLegal s) :
    muxPattern s = (raise (.displayRange s.displayValue.toNat) s, .raised) := by
  have range : outOfRange s.displayValue = true := by simpa [outOfRange, DisplayLegal] using h
  simp [muxPattern, range]

/-- SEG is written by the second micro-step of MUX_STEP alone. -/
theorem mux_of_seg_ne {t : TickTask} {k : Nat} {s : State} (h : (tickTaskStep t k s).1.seg ≠ s.seg) :
    t = .mux ∧ k = 1 := by
  cases t with
  | pace => exact absurd (by simp only [tickTaskStep, paceStep]; split <;> rfl) h
  | effect | ack => exact absurd rfl h
  | glow => exact absurd (by simp only [tickTaskStep, glowStep_eq, glowed]; (repeat' split) <;> rfl) h
  | alarm => exact absurd (by simp only [tickTaskStep, alarmStep]; (repeat' split) <;> rfl) h
  | mux =>
    match k with
    | 1 => exact ⟨rfl, rfl⟩
    | 0 | 2 | _ + 3 => exact absurd rfl h

theorem pollingTurn_tickSide (s : State) : tickSide (pollingTurn s) = tickSide s := by
  unfold pollingTurn
  split
  · rfl
  · rfl
  · cases step : pollStep s with
    | none => rfl
    | some u =>
      obtain ⟨t, rest, a, -, -, rfl⟩ := pollStep_cases step
      exact taskStep_tickSide t s.poll.stage s

/-- A turn of the interrupt context that changes SEG is MUX_STEP's second micro-step. -/
theorem interruptTurn_of_seg_ne {s : State} (h : (interruptTurn s).seg ≠ s.seg) :
    ∃ rest, s.tick = ⟨.mux :: rest, 1⟩ ∧ (interruptTurn s).an = s.an := by
  cases todo : s.tick.todo with
  | nil =>
    refine absurd ?_ h
    by_cases pending : s.tickPending = true <;> simp [interruptTurn, todo, pending, enterHandler]
  | cons t ts =>
    obtain ⟨u, step, -⟩ := tickStep_progress todo
    rw [interruptTurn_of_tickStep step] at h ⊢
    obtain ⟨t', rest, a, first, -, rfl⟩ := tickStep_cases step
    obtain ⟨rfl, stage⟩ := mux_of_seg_ne h
    refine ⟨rest, by rw [← first, ← stage], ?_⟩
    simp only [tickTaskStep, stage, muxStep]
    rw [muxPattern_frame]

/-! ## SegIndex over whole operations and turns (42_display_mux R142) -/

theorem finishTick_segIndex (s : State) : (finishTick s).faults.segIndex = s.faults.segIndex := by
  unfold finishTick
  generalize taskFuel * s.tick.todo.length = n
  induction n generalizing s with
  | zero => rfl
  | succ n ih =>
    cases step : tickStep s with
    | some u => rw [drainTick_some n step, ih u, tickStep_segIndex step]
    | none => rw [drainTick_none _ step]

theorem takeTurn_segIndex (m : Mover) (s : State) : (takeTurn m s).faults.segIndex = s.faults.segIndex := by
  cases m with
  | timer | key | switch => rfl
  | interrupt =>
    cases todo : s.tick.todo with
    | nil => by_cases pending : s.tickPending = true <;> simp [takeTurn, interruptTurn, todo, pending]
    | cons t ts =>
      obtain ⟨u, step, -⟩ := tickStep_progress todo
      rw [takeTurn, interruptTurn_of_tickStep step, tickStep_segIndex step]
  | polling =>
    simp only [takeTurn, pollingTurn]
    split
    · rfl
    · rfl
    · cases step : pollStep s with
      | none => rfl
      | some u => exact pollStep_segIndex step

/-! ## The digits of a legal value (30_encoding R88, R89) -/

theorem digit_le_nine {v : Nat} (h : v ≤ Config.dvMax) (s : BitVec 2) : digit v s ≤ 9 :=
  Nat.le_of_lt_succ (place_lt_ten v (Config.slotPlace s) h)

/-- The four places recover the value. -/
theorem places_recover (v : Nat) : place v 3 * 1000 + place v 2 * 100 + place v 1 * 10 + place v 0 = v := by
  simp only [place]
  omega

end Sys2Proof.Machine

namespace Sys2Proof.DisplayMux

open Sys2Proof.Machine

/-- Settles O26: the closed form of MUX_STEP, and its four writes each as one `tickTaskStep`. -/
theorem muxStep : Obligations.MuxStep := by
  refine ⟨by decide, fun s ⟨ht, _⟩ legal => ⟨_, segRead_digit legal, exec_muxStep_legal ht legal⟩,
    fun s ⟨ht, _⟩ illegal => exec_muxStep_fault ht illegal, fun s rest _ => ⟨fun hs => ?_,
    fun hs legal => ⟨_, segRead_digit legal, ?_⟩, fun hs illegal => ?_, fun hs => ?_, fun hs => ?_⟩⟩
  · exact interruptTurn_of_tickTaskStep hs rfl rfl
  · exact interruptTurn_of_tickTaskStep hs (muxPattern_legal legal) rfl
  · exact interruptTurn_of_tickTaskStep hs (muxPattern_illegal illegal) rfl
  · exact interruptTurn_of_tickTaskStep hs rfl rfl
  · exact interruptTurn_of_tickTaskStep hs rfl rfl

/-- Settles O28: only MUX_STEP's second micro-step writes SEG, and there the invariant has the anodes blanked. -/
theorem blankBeforeChange : Obligations.BlankBeforeChange := by
  intro s m _ inv changed
  cases m with
  | timer | key | switch => exact absurd rfl changed
  | polling =>
    obtain ⟨-, -, -, -, seg, -⟩ := tickSide_inj.mp (pollingTurn_tickSide s)
    exact absurd seg changed
  | interrupt =>
    obtain ⟨rest, place, an⟩ := interruptTurn_of_seg_ne changed
    have blanked : s.an = 0 := by
      unfold MuxInv at inv
      rwa [place] at inv
    exact ⟨blanked, an.trans blanked⟩

/-- Settles O29: decimal arithmetic, the table's ten entries, and that a digit in range always has one. -/
theorem digits : Obligations.Digits := by
  refine ⟨fun v hv => ⟨places_recover v, rfl, rfl, rfl, rfl, fun s => ⟨rfl, digit_le_nine hv s⟩,
      rfl, rfl, rfl, rfl⟩, fun v a b c d ha hb hc hd hv => ?_, fun _ => rfl, ?_, segRead_none,
    fun s t run => ?_, takeTurn_segIndex⟩
  · simp only [Config.dvMax, place]
    omega
  · decide
  · cases run
    exact (finishTick_segIndex _).trans (finishTick_segIndex s)

end Sys2Proof.DisplayMux

namespace Sys2Proof.Machine

/-! ## Effect-ticks as changes of the two effects' cells (41_blink_effects R122, R125) -/

/-- What an effect-tick makes of Glow's cells (R122). -/
def glowCellStep : EffectCells → EffectCells
  | (true, count, pin) => if count ≤ 1 then (false, 0, false) else (true, count - 1, pin)
  | idle => idle

/-- What an effect-tick makes of Alarm's cells (R125). -/
def alarmCellStep : EffectCells → EffectCells
  | (true, count, pin) =>
    if Config.alarmBudget ≤ count + 1 then (false, count + 1, false) else (true, count + 1, !pin)
  | idle => idle

/-- `s` with these cells of Glow and of Alarm. -/
def withCells (g a : EffectCells) (s : State) : State :=
  { s with
    glowArmed := g.1, glowCount := g.2.1, glowPin := g.2.2,
    alarmArmed := a.1, alarmCount := a.2.1, alarmPin := a.2.2 }

@[simp] theorem glowCells_withCells (g a : EffectCells) (s : State) : glowCells (withCells g a s) = g := rfl

@[simp] theorem alarmCells_withCells (g a : EffectCells) (s : State) : alarmCells (withCells g a s) = a := rfl

theorem glowed_eq_withCells (s : State) : glowed s = withCells (glowCellStep (glowCells s)) (alarmCells s) s := by
  unfold glowed
  cases armed : s.glowArmed with
  | false => cases s; cases armed; rfl
  | true =>
    by_cases last : s.glowCount ≤ 1 <;> simp [withCells, glowCells, alarmCells, glowCellStep, armed, last]

theorem alarmed_eq_withCells (s : State) :
    alarmed s = withCells (glowCells s) (alarmCellStep (alarmCells s)) s := by
  unfold alarmed
  cases armed : s.alarmArmed with
  | false => cases s; cases armed; rfl
  | true =>
    by_cases last : Config.alarmBudget ≤ s.alarmCount + 1 <;>
      simp [withCells, glowCells, alarmCells, alarmCellStep, armed, last]

theorem alarmed_glowed_eq_withCells (s : State) :
    alarmed (glowed s) = withCells (glowCellStep (glowCells s)) (alarmCellStep (alarmCells s)) s := by
  rw [alarmed_eq_withCells, glowed_eq_withCells]
  rfl

/-- Any number of effect-ticks. -/
theorem effectTicks_eq_withCells (n : Nat) {s : State} (ht : s.tick = Agenda.idle) :
    effectTicks n s = withCells (glowCellStep^[n] (glowCells s)) (alarmCellStep^[n] (alarmCells s)) s := by
  induction n generalizing s with
  | zero => rfl
  | succ n ih =>
    rw [effectTicks, performTick_effect ht, alarmed_glowed_eq_withCells,
      ih (s := withCells _ _ s) ht]
    rfl

/-! ### Closed forms of any number of effect-ticks -/

theorem iterate_glowCellStep_idle (n count : Nat) (pin : Bool) :
    glowCellStep^[n] (false, count, pin) = (false, count, pin) :=
  Function.iterate_fixed rfl n

theorem iterate_alarmCellStep_idle (n count : Nat) (pin : Bool) :
    alarmCellStep^[n] (false, count, pin) = (false, count, pin) :=
  Function.iterate_fixed rfl n

/-- Before its count is used up Glow stays active. -/
theorem iterate_glowCellStep_active {n count : Nat} (pin : Bool) (h : n < count) :
    glowCellStep^[n] (true, count, pin) = (true, count - n, pin) := by
  induction n generalizing count with
  | zero => rfl
  | succ n ih =>
    have more : ¬ count ≤ 1 := by omega
    rw [Function.iterate_succ_apply, glowCellStep, if_neg more, ih (by omega), Nat.sub_sub, Nat.add_comm 1]

/-- After it Glow is idle with its pin inactive. -/
theorem iterate_glowCellStep_over {n count : Nat} (pin : Bool) (one : 1 ≤ n) (h : count ≤ n) :
    glowCellStep^[n] (true, count, pin) = (false, 0, false) := by
  induction n generalizing count with
  | zero => omega
  | succ n ih =>
    rw [Function.iterate_succ_apply, glowCellStep]
    split
    case isTrue => exact iterate_glowCellStep_idle n 0 false
    case isFalse more => exact ih (by omega) (by omega)

/-- Before its budget is reached Alarm toggles. -/
theorem iterate_alarmCellStep_active {n count : Nat} (pin : Bool) (h : count + n < Config.alarmBudget) :
    alarmCellStep^[n] (true, count, pin) = (true, count + n, pin ^^ decide (n % 2 = 1)) := by
  induction n generalizing count pin with
  | zero => simp
  | succ n ih =>
    have more : ¬ Config.alarmBudget ≤ count + 1 := by omega
    rw [Function.iterate_succ_apply, alarmCellStep, if_neg more, ih _ (by omega), Nat.add_assoc,
      Nat.add_comm 1]
    rcases Nat.mod_two_eq_zero_or_one n with even | odd
    · simp [even, Nat.succ_mod_two_eq_one_iff.mpr even]
    · simp [odd, Nat.succ_mod_two_eq_zero_iff.mpr odd]

/-- At its budget, or one above where it was armed at the budget, Alarm is idle with its pin inactive. -/
theorem iterate_alarmCellStep_over {n count : Nat} (pin : Bool) (one : 1 ≤ n)
    (h : Config.alarmBudget ≤ count + n) :
    alarmCellStep^[n] (true, count, pin) = (false, max Config.alarmBudget (count + 1), false) := by
  induction n generalizing count pin with
  | zero => omega
  | succ n ih =>
    rw [Function.iterate_succ_apply, alarmCellStep]
    split
    case isTrue last =>
      rw [iterate_alarmCellStep_idle, max_eq_right last]
    case isFalse more =>
      rw [ih _ (by omega) (by omega)]
      congr 2
      omega

/-- The cells of a Glow after a clean trigger and `n` effect-ticks. -/
theorem iterate_glowCellStep_clean (n : Nat) :
    glowCellStep^[n] (true, Config.glowDuration, true) =
      (decide (n < Config.glowDuration), Config.glowDuration - n, decide (n < Config.glowDuration)) := by
  by_cases active : n < Config.glowDuration
  · simp [iterate_glowCellStep_active true active, active]
  · have spent : Config.glowDuration ≤ n := Nat.not_lt.mp active
    rw [iterate_glowCellStep_over true ((by decide : 1 ≤ Config.glowDuration).trans spent) spent,
      Nat.sub_eq_zero_of_le spent]
    simp [active]

/-- The cells of an Alarm after a clean trigger and `n` effect-ticks. -/
theorem iterate_alarmCellStep_clean (n : Nat) :
    alarmCellStep^[n] (true, 0, true) =
      (decide (n < Config.alarmBudget), min n Config.alarmBudget,
        decide (n < Config.alarmBudget ∧ n % 2 = 0)) := by
  by_cases active : n < Config.alarmBudget
  · rw [iterate_alarmCellStep_active true (by omega), min_eq_left active.le]
    rcases Nat.mod_two_eq_zero_or_one n with parity | parity <;> simp [active, parity]
  · have spent : Config.alarmBudget ≤ n := Nat.not_lt.mp active
    rw [iterate_alarmCellStep_over true ((by decide : 1 ≤ Config.alarmBudget).trans spent) (by omega),
      min_eq_right spent]
    simp [active]
    decide

/-! ## A trigger racing the handler (41_blink_effects R126) -/

theorem setPoll_self {s : State} {a : Agenda Task} (h : s.poll = a) : { s with poll := a } = s := by
  rw [← h]

theorem effectTicks_tick (n : Nat) {s : State} (ht : s.tick = Agenda.idle) :
    (effectTicks n s).tick = Agenda.idle := by
  rw [effectTicks_eq_withCells n ht]
  exact ht

theorem effectTicks_poll (n : Nat) {s : State} (ht : s.tick = Agenda.idle) :
    (effectTicks n s).poll = s.poll := by
  rw [effectTicks_eq_withCells n ht]
  rfl

theorem effectTicks_setPoll (n : Nat) {s : State} (ht : s.tick = Agenda.idle) (a : Agenda Task) :
    effectTicks n { s with poll := a } = { effectTicks n s with poll := a } := by
  rw [effectTicks_eq_withCells n ht, effectTicks_eq_withCells n (s := { s with poll := a }) ht]
  rfl

/-- A turn of the polling context between two handlers, its place written apart from the rest of the state. -/
theorem pollingTurn_cons {t : Task} {k : Nat} {c : Ctl Task} {a : Agenda Task} {rest : List Task} {s u : State}
    (idle : s.tick.todo = []) (h : taskStep t k s = (u, c)) (ha : c.agenda t rest k = some a) :
    pollingTurn { s with poll := ⟨t :: rest, k⟩ } = { u with poll := a } := by
  have step := taskStep_setPoll t k s ⟨t :: rest, k⟩
  rw [h] at step
  exact (pollingTurn_of_taskStep rfl step ha idle :)

/-- The turn of a task given alone. -/
theorem pollingTurn_setPoll {t : Task} {k : Nat} {a : Agenda Task} {s : State} (ht : s.tick = Agenda.idle)
    (ha : (taskStep t k s).2.agenda t [] k = some a) :
    pollingTurn { s with poll := ⟨[t], k⟩ } = { (taskStep t k s).1 with poll := a } :=
  pollingTurn_cons (congrArg Agenda.todo ht) rfl ha

section

variable {s : State} (hs : BetweenOps s)

include hs

theorem givePoll_of_betweenOps (t : Task) : givePoll t s = { s with poll := ⟨[t], 0⟩ } := by
  obtain ⟨poll, -⟩ := hs
  rw [givePoll, poll]
  rfl

/-- A race is the three writes of the trigger with the effect-ticks between them. -/
theorem raceTrigger_eq {t : Task} (h0 : ∀ u, (taskStep t 0 u).2 = .again)
    (h1 : ∀ u, (taskStep t 1 u).2 = .again) (h2 : ∀ u, (taskStep t 2 u).2 = .done) (p1 p2 : Nat) :
    raceTrigger t p1 p2 s =
      (taskStep t 2 (effectTicks p2 (taskStep t 1 (effectTicks p1 (taskStep t 0 s).1)).1)).1 := by
  obtain ⟨poll, tick⟩ := hs
  have tick0 := (taskStep_tick t 0 s).trans tick
  have tick1 := effectTicks_tick p1 tick0
  have tick2 := (taskStep_tick t 1 _).trans tick1
  have tick3 := effectTicks_tick p2 tick2
  have poll1 := (effectTicks_poll p1 tick0).trans ((taskStep_poll t 0 s).trans poll)
  have poll3 := (effectTicks_poll p2 tick2).trans ((taskStep_poll t 1 _).trans poll1)
  have ended := (taskStep_poll t 2 _).trans poll3
  rw [raceTrigger, givePoll_of_betweenOps ⟨poll, tick⟩,
    pollingTurn_setPoll tick (congrArg (Ctl.agenda t [] 0) (h0 s)), effectTicks_setPoll p1 tick0,
    pollingTurn_setPoll tick1 (congrArg (Ctl.agenda t [] 1) (h1 _)), effectTicks_setPoll p2 tick2,
    pollingTurn_setPoll tick3 (congrArg (Ctl.agenda t [] 2) (h2 _))]
  exact setPoll_self ended

end

/-- Glow's cells after a GLOW_TRIGGER with `p1` and `p2` effect-ticks between its micro-steps: the pin is written
first, then the count, then the flag. -/
def racedGlow (p1 p2 : Nat) (g : EffectCells) : EffectCells :=
  let first := glowCellStep^[p1] (g.1, g.2.1, true)
  let second := glowCellStep^[p2] (first.1, Config.glowDuration, first.2.2)
  (true, second.2)

/-- Alarm's cells after an ALARM_TRIGGER with `p1` and `p2` effect-ticks between its micro-steps. -/
def racedAlarm (p1 p2 : Nat) (a : EffectCells) : EffectCells :=
  let first := alarmCellStep^[p1] (a.1, a.2.1, true)
  let second := alarmCellStep^[p2] (first.1, 0, first.2.2)
  (true, second.2)

theorem raceTrigger_glow (p1 p2 : Nat) {s : State} (hs : BetweenOps s) : raceTrigger .glowTrigger p1 p2 s =
    withCells (racedGlow p1 p2 (glowCells s)) (alarmCellStep^[p1 + p2] (alarmCells s)) s := by
  obtain ⟨-, tick⟩ := id hs
  rw [raceTrigger_eq hs (fun _ => rfl) (fun _ => rfl) (fun _ => rfl), Nat.add_comm,
    effectTicks_eq_withCells p1 (s := (taskStep .glowTrigger 0 s).1) tick,
    effectTicks_eq_withCells p2 (s := (taskStep .glowTrigger 1 (withCells _ _ (taskStep .glowTrigger 0 s).1)).1) tick,
    Function.iterate_add_apply]
  rfl

theorem raceTrigger_alarm (p1 p2 : Nat) {s : State} (hs : BetweenOps s) : raceTrigger .alarmTrigger p1 p2 s =
    withCells (glowCellStep^[p1 + p2] (glowCells s)) (racedAlarm p1 p2 (alarmCells s)) s := by
  obtain ⟨-, tick⟩ := id hs
  rw [raceTrigger_eq hs (fun _ => rfl) (fun _ => rfl) (fun _ => rfl), Nat.add_comm,
    effectTicks_eq_withCells p1 (s := (taskStep .alarmTrigger 0 s).1) tick,
    effectTicks_eq_withCells p2 (s := (taskStep .alarmTrigger 1 (withCells _ _ (taskStep .alarmTrigger 0 s).1)).1) tick,
    Function.iterate_add_apply]
  rfl

section

variable {p1 p2 count : Nat} {pin : Bool}

theorem racedGlow_idle : racedGlow p1 p2 (false, count, pin) = (true, Config.glowDuration, true) := by
  simp only [racedGlow, iterate_glowCellStep_idle]

/-- Still armed at both writes: the count written stands, less the effect-ticks after it. -/
theorem racedGlow_early (h1 : p1 < count) (h2 : p2 < Config.glowDuration) :
    racedGlow p1 p2 (true, count, pin) = (true, Config.glowDuration - p2, true) := by
  simp only [racedGlow, iterate_glowCellStep_active true h1, iterate_glowCellStep_active true h2]

/-- The whole new Glow passes before the flag is set again. -/
theorem racedGlow_passed (h1 : p1 < count) (h2 : Config.glowDuration ≤ p2) :
    racedGlow p1 p2 (true, count, pin) = (true, 0, false) := by
  have some : 1 ≤ p2 := (by decide : 1 ≤ Config.glowDuration).trans h2
  simp only [racedGlow, iterate_glowCellStep_active true h1, iterate_glowCellStep_over true some h2]

/-- The old Glow ends after the pin was written: the pin stays inactive. -/
theorem racedGlow_ended (armed : 1 ≤ count) (h1 : count ≤ p1) :
    racedGlow p1 p2 (true, count, pin) = (true, Config.glowDuration, false) := by
  simp only [racedGlow, iterate_glowCellStep_over true (armed.trans h1) h1, iterate_glowCellStep_idle]

/-- Whatever the race, Glow is idle after GLOW_DURATION further effect-ticks. -/
theorem iterate_glowCellStep_raced (g : EffectCells) :
    glowCellStep^[Config.glowDuration] (racedGlow p1 p2 g) = (false, 0, false) := by
  have bound (armed pin : Bool) :
      (glowCellStep^[p2] (armed, Config.glowDuration, pin)).2.1 ≤ Config.glowDuration := by
    cases armed with
    | false => rw [iterate_glowCellStep_idle]
    | true =>
      rcases Nat.lt_or_ge p2 Config.glowDuration with active | spent
      · rw [iterate_glowCellStep_active pin active]
        exact Nat.sub_le _ _
      · have some : 1 ≤ p2 := (by decide : 1 ≤ Config.glowDuration).trans spent
        rw [iterate_glowCellStep_over pin some spent]
        exact Nat.zero_le _
  exact iterate_glowCellStep_over _ (by decide) (bound _ _)

theorem racedAlarm_idle : racedAlarm p1 p2 (false, count, pin) = (true, 0, true) := by
  simp only [racedAlarm, iterate_alarmCellStep_idle]

/-- Still armed at both writes: the count starts again, the pin goes on toggling from 1. -/
theorem racedAlarm_early (h1 : p1 < Config.alarmBudget - count) (h2 : p2 < Config.alarmBudget) :
    racedAlarm p1 p2 (true, count, pin) = (true, p2, decide ((p1 + p2) % 2 = 0)) := by
  have parity : (true ^^ decide (p1 % 2 = 1) ^^ decide (p2 % 2 = 1)) = decide ((p1 + p2) % 2 = 0) := by
    rw [Nat.add_mod]
    rcases Nat.mod_two_eq_zero_or_one p1 with h | h <;> rcases Nat.mod_two_eq_zero_or_one p2 with h' | h' <;>
      simp [h, h']
  have first := iterate_alarmCellStep_active true (Nat.add_lt_of_lt_sub' h1)
  have second := iterate_alarmCellStep_active (count := 0) (true ^^ decide (p1 % 2 = 1))
    ((Nat.zero_add p2).trans_lt h2)
  simp only [racedAlarm, first, second, Nat.zero_add, parity]

/-- The whole new Alarm passes before the flag is set again. -/
theorem racedAlarm_passed (h1 : p1 < Config.alarmBudget - count) (h2 : Config.alarmBudget ≤ p2) :
    racedAlarm p1 p2 (true, count, pin) = (true, Config.alarmBudget, false) := by
  have some : 1 ≤ p2 := (by decide : 1 ≤ Config.alarmBudget).trans h2
  have first := iterate_alarmCellStep_active true (Nat.add_lt_of_lt_sub' h1)
  have second := iterate_alarmCellStep_over (count := 0) (true ^^ decide (p1 % 2 = 1)) some
    (h2.trans_eq (Nat.zero_add p2).symm)
  simp only [racedAlarm, first, second]
  rfl

/-- The old Alarm ends after the pin was written: the pin stays inactive. -/
theorem racedAlarm_ended (armed : count < Config.alarmBudget) (h1 : Config.alarmBudget - count ≤ p1) :
    racedAlarm p1 p2 (true, count, pin) = (true, 0, false) := by
  simp only [racedAlarm, iterate_alarmCellStep_over (n := p1) (count := count) true (by omega) (by omega),
    iterate_alarmCellStep_idle]

/-- Whatever the race, Alarm is idle after ALARM_BUDGET further effect-ticks. -/
theorem iterate_alarmCellStep_raced (a : EffectCells) :
    ∃ count, alarmCellStep^[Config.alarmBudget] (racedAlarm p1 p2 a) = (false, count, false) :=
  ⟨_, iterate_alarmCellStep_over _ (by decide) (Nat.le_add_left _ _)⟩

end

/-! ## A firing of the timer (40_tick_source R101) -/

theorem fireTimer_running {s : State} (run : s.tickRun = true) :
    fireTimer s = { s with tickPending := true } := by
  simp [fireTimer, pendingAfterFire, run]

theorem fireTimer_stopped {s : State} (stopped : s.tickRun = false) : fireTimer s = s := by
  have same : pendingAfterFire s.tickRun s.tickPending = s.tickPending := by rw [stopped]; rfl
  rw [fireTimer, same]

/-- Without a tick pending there is no handler to perform (40_tick_source R102; log 4). -/
theorem performHandler_none {s : State} (idle : s.tick.todo = []) (none : s.tickPending = false) :
    performHandler s = s := by
  simp [performHandler, finishTick_none idle, none]

end Sys2Proof.Machine

namespace Sys2Proof.TickSource

open Sys2Proof.Machine

/-- Settles O9: a firing is `fireTimer`, as an operation and as the timer's turn. -/
theorem tmrFire : Obligations.TmrFire := by
  refine ⟨by decide, fun s _ run => ⟨?_, fireTimer_running run, fun pending => ?_⟩, fun s _ stopped => ?_⟩
  · exact congrArg _ (fireTimer_running run)
  · have absorbed : fireTimer s = s := by rw [fireTimer_running run, ← pending]
    exact congrArg _ absorbed
  · exact ⟨congrArg _ (fireTimer_stopped stopped), fireTimer_stopped stopped⟩

/-- Settles O10: the interrupt context's turn between two handlers and inside one. -/
theorem handlerEntry : Obligations.HandlerEntry := by
  refine ⟨fun s _ => interruptTurn_pending, fun s _ idle none => ?_, fun s _ busy => ?_,
    fun s _ idle none => ?_⟩
  · simp [interruptTurn, idle, none]
  · obtain ⟨t, ts, todo⟩ := List.exists_cons_of_ne_nil busy
    obtain ⟨u, step, -⟩ := tickStep_progress todo
    exact ⟨by simp [pollingTurn, todo], by rw [interruptTurn_of_tickStep step, step]⟩
  · exact congrArg _ (performHandler_none idle none)

/-- Settles O12: PACE_STEP's closed form, below the wrap and at it. -/
theorem paceStep : Obligations.PaceStep := by
  refine ⟨by decide, fun s ⟨ht, _⟩ below => ?_, fun s ⟨ht, _⟩ wrap => ⟨_, exec_effectTick ht, ?_⟩⟩
  · rw [exec_paceStep ht, paced, if_neg (Nat.not_le.mpr below)]
  · rw [exec_paceStep ht, paced, if_pos wrap]

/-- Settles O13: both orders give the same state, the two effects having no cell in common. -/
theorem effectTick : Obligations.EffectTick := by
  refine ⟨by decide, fun s ⟨ht, _⟩ => ⟨glowed s, alarmed s, alarmed (glowed s), exec_glowStep ht, ?_,
    exec_alarmStep ht, ?_, exec_effectTick ht⟩⟩
  · exact exec_alarmStep ((glowed_tick s).trans ht)
  · rw [alarmed_glowed]
    exact exec_glowStep ((alarmed_tick s).trans ht)

/-- Settles O14: the closed forms of the parts and of the whole, with a legal DisplayValue and without. -/
theorem tickHandler : Obligations.TickHandler := by
  refine ⟨by decide, fun s ⟨ht, _⟩ pending legal => ?_, fun s ⟨ht, _⟩ pending illegal => ?_⟩
  all_goals have idle : (paced s).tick = Agenda.idle := (paced_tick s).trans ht
  · have mux : (muxed (paced s)).tick = Agenda.idle := idle
    exact ⟨_, _, _, exec_paceStep ht, exec_muxStep_legal idle (displayLegal_paced.mpr legal),
      exec_irqAck mux, congrArg _ (performHandler_legal ht pending legal)⟩
  · exact ⟨_, _, exec_paceStep ht, exec_muxStep_fault idle (mt displayLegal_paced.mp illegal),
      congrArg _ (performHandler_fault ht pending illegal), (paced_tickPending s).trans pending⟩

end Sys2Proof.TickSource

namespace Sys2Proof.BlinkEffects

open Sys2Proof.Machine

/-- Settles O18: the step's three cases, its first micro-step, and the closed form of a clean Alarm's cells. -/
theorem alarmStep : Obligations.AlarmStep := by
  refine ⟨by decide, fun s ⟨ht, _⟩ off => ?_, fun s ⟨ht, _⟩ on below => ?_, fun s ⟨ht, _⟩ on last => ?_,
    fun s rest _ on hs => ?_, fun s n ⟨ht, _⟩ on zero pin bound => ?_⟩
  · rw [exec_alarmStep ht, alarmed, if_neg (by simp [off])]
  · rw [exec_alarmStep ht, alarmed, if_pos on, if_neg (Nat.not_le.mpr below)]
  · rw [exec_alarmStep ht, alarmed, if_pos on, if_pos last]
  · exact interruptTurn_of_tickTaskStep hs (if_pos on) rfl
  · have clean : alarmCells s = (true, 0, true) := by rw [alarmCells, on, zero, pin]
    rw [effectTicks_eq_withCells n ht, clean, iterate_alarmCellStep_clean]
    exact ⟨min_eq_left bound, rfl, rfl⟩

/-- Settles O19: a race changes Glow's cells as `racedGlow` and Alarm's as `racedAlarm` say, and the other effect's
as the effect-ticks between do. -/
theorem triggerRaces : Obligations.TriggerRaces := by
  refine ⟨fun s p1 p2 ready => ⟨fun off => ?_, fun on armed => ?_⟩,
    fun s p1 p2 ready => ⟨fun off => ?_, fun on armed => ?_⟩⟩
  all_goals
    obtain ⟨-, ht, -⟩ := id ready
    have idle := ready.betweenOps
  · rw [raceTrigger_glow p1 p2 idle, effectTicks_eq_withCells _ ht, glowCells, off, racedGlow_idle]
    rfl
  · have after : glowCells s = (true, s.glowCount, s.glowPin) := by rw [glowCells, on]
    refine ⟨_, rfl, raceTrigger_glow p1 p2 idle, fun h1 h2 => ?_, fun h1 h2 => ?_, fun h1 => ?_, ?_⟩
    · rw [after, racedGlow_early h1 h2]
      exact ⟨rfl, rfl⟩
    · rw [after, racedGlow_passed h1 h2]
      exact ⟨rfl, rfl⟩
    · rw [after, racedGlow_ended armed h1]
      exact ⟨rfl, rfl⟩
    · rw [effectTicks_eq_withCells _ (s := withCells _ _ s) ht, glowCells_withCells, iterate_glowCellStep_raced]
      exact ⟨rfl, rfl⟩
  · rw [raceTrigger_alarm p1 p2 idle, effectTicks_eq_withCells _ ht, alarmCells, off, racedAlarm_idle]
    rfl
  · have after : alarmCells s = (true, s.alarmCount, s.alarmPin) := by rw [alarmCells, on]
    refine ⟨_, rfl, raceTrigger_alarm p1 p2 idle, fun h1 h2 => ?_, fun h1 h2 => ?_, fun h1 => ?_, ?_⟩
    · rw [after, racedAlarm_early h1 h2]
      exact ⟨rfl, rfl⟩
    · rw [after, racedAlarm_passed h1 h2]
      exact ⟨rfl, rfl⟩
    · rw [after, racedAlarm_ended armed h1]
      exact ⟨rfl, rfl⟩
    · obtain ⟨count, ended⟩ := iterate_alarmCellStep_raced (p1 := p1) (p2 := p2) (alarmCells s)
      rw [effectTicks_eq_withCells _ (s := withCells _ _ s) ht, alarmCells_withCells, ended]
      exact ⟨rfl, rfl⟩

end Sys2Proof.BlinkEffects

namespace Sys2Proof.Machine

/-! ## Any number of ticks (30_encoding R92, 40_tick_source R108) -/

/-- `TICKS n` performed word by word is `n` ticks. -/
theorem runInstrs_tickWords (n : Nat) (s : State) : runInstrs (tickWords n) s = .next (tickTimes n s) := by
  induction n generalizing s with
  | zero => rfl
  | succ n ih => exact ih (tickOnce s)

/-- PaceCount after one more tick. -/
def nextPace (pace : Nat) : Nat := if Config.effectDiv ≤ pace + 1 then 0 else pace + 1

/-- The effect-ticks in the next `n` ticks. -/
def effectsIn : Nat → Nat → Nat
  | 0, _ => 0
  | n + 1, pace => effectsIn n (nextPace pace) + if Config.effectDiv ≤ pace + 1 then 1 else 0

/-- From a PaceCount in range, PaceCount counts modulo EFFECT_DIV and the effect-ticks are its wraps. -/
theorem pace_closed_form (n : Nat) {pace : Nat} (h : pace < Config.effectDiv) :
    nextPace^[n] pace = (pace + n) % Config.effectDiv ∧ effectsIn n pace = (pace + n) / Config.effectDiv := by
  induction n generalizing pace with
  | zero => exact ⟨(Nat.mod_eq_of_lt h).symm, (Nat.div_eq_of_lt h).symm⟩
  | succ n ih =>
    have next : nextPace pace < Config.effectDiv := by unfold nextPace; split <;> omega
    obtain ⟨count, effects⟩ := ih next
    rw [Function.iterate_succ_apply, effectsIn, count, effects]
    unfold nextPace
    split
    case isTrue wrap =>
      have all : pace + (n + 1) = n + Config.effectDiv := by omega
      rw [all, Nat.add_mod_right, Nat.add_div_right _ (Nat.zero_lt_of_lt h), Nat.zero_add]
      exact ⟨rfl, rfl⟩
    case isFalse => rw [Nat.add_assoc, Nat.add_comm 1 n]; exact ⟨rfl, rfl⟩

theorem paced_eq_withCells (s : State) :
    paced s = withCells (glowCellStep^[effectsIn 1 s.paceCount] (glowCells s))
      (alarmCellStep^[effectsIn 1 s.paceCount] (alarmCells s)) { s with paceCount := nextPace s.paceCount } := by
  by_cases wrap : Config.effectDiv ≤ s.paceCount + 1
  · simp only [paced, effectsIn, nextPace, wrap, if_true]
    exact alarmed_glowed_eq_withCells _
  · simp only [paced, effectsIn, nextPace, wrap, if_false]
    rfl

/-- A running timer, no handler in progress, and a display value in range: a tick raises no fault. -/
structure Ticking (s : State) : Prop where
  tick : s.tick = Agenda.idle
  run : s.tickRun = true
  legal : DisplayLegal s

/-- The pattern of slot `d` while DisplayValue stands. -/
def slotPattern (s : State) (d : BitVec 2) : BitVec 7 := pattern { s with digitSlot := d }

/-- The state after `e` of the ticks were effect-ticks, with this PaceCount and slot `d` the last shown. -/
def tickedTo (e pace : Nat) (d : BitVec 2) (s : State) : State :=
  withCells (glowCellStep^[e] (glowCells s)) (alarmCellStep^[e] (alarmCells s))
    { s with
      tickPending := false, paceCount := pace, an := onehot d, seg := slotPattern s d, digitSlot := d + 1 }

theorem tickOnce_eq {s : State} (h : Ticking s) :
    tickOnce s = tickedTo (effectsIn 1 s.paceCount) (nextPace s.paceCount) s.digitSlot s := by
  rw [tickOnce_legal h.tick h.run h.legal, paced_eq_withCells]
  rfl

theorem Ticking.tickedTo {s : State} (h : Ticking s) (e pace : Nat) (d : BitVec 2) :
    Ticking (tickedTo e pace d s) := ⟨h.tick, h.run, h.legal⟩

theorem tickedTo_tickedTo (e e' pace pace' : Nat) (d d' : BitVec 2) (s : State) :
    tickedTo e pace d (tickedTo e' pace' d' s) = tickedTo (e + e') pace d s := by
  simp only [tickedTo, Function.iterate_add_apply]
  rfl

/-- After `n + 1` ticks the slot shown last is the `n`-th from DigitSlot. -/
theorem tickTimes_succ_eq (n : Nat) {s : State} (h : Ticking s) :
    tickTimes (n + 1) s =
      tickedTo (effectsIn (n + 1) s.paceCount) (nextPace^[n + 1] s.paceCount)
        (s.digitSlot + BitVec.ofNat 2 n) s := by
  induction n generalizing s with
  | zero => rw [tickTimes, tickTimes, tickOnce_eq h, BitVec.add_zero]; rfl
  | succ n ih =>
    have slot : s.digitSlot + 1 + BitVec.ofNat 2 n = s.digitSlot + BitVec.ofNat 2 (n + 1) := by
      rw [BitVec.add_assoc, BitVec.add_comm 1, BitVec.ofNat_add]
      rfl
    rw [tickTimes, tickOnce_eq h, ih (h.tickedTo _ _ _), tickedTo_tickedTo]
    simp only [effectsIn, Nat.zero_add]
    exact congrArg (fun d => tickedTo _ _ d s) slot

/-- PaceCount, the effects' cells and TickPending after any number of ticks. -/
theorem blinkCells_tickTimes (n : Nat) {s : State} (h : Ticking s) (none : s.tickPending = false)
    (range : s.paceCount < Config.effectDiv) :
    (tickTimes n s).tickPending = false ∧
      blinkCells (tickTimes n s) =
        ((s.paceCount + n) % Config.effectDiv,
          glowCellStep^[(s.paceCount + n) / Config.effectDiv] (glowCells s),
          alarmCellStep^[(s.paceCount + n) / Config.effectDiv] (alarmCells s)) := by
  cases n with
  | zero =>
    refine ⟨none, ?_⟩
    rw [Nat.add_zero, Nat.mod_eq_of_lt range, Nat.div_eq_of_lt range]
    rfl
  | succ n =>
    obtain ⟨count, effects⟩ := pace_closed_form (n + 1) range
    rw [tickTimes_succ_eq n h, count, effects]
    exact ⟨rfl, rfl⟩

/-- Effect-tick `j`, from 0, falls in tick `EFFECT_DIV - pace + j * EFFECT_DIV`. -/
theorem lt_effects_iff {pace n j : Nat} (h : pace < Config.effectDiv) :
    j < (pace + n) / Config.effectDiv ↔ (Config.effectDiv - pace) + j * Config.effectDiv ≤ n := by
  rw [Nat.lt_iff_add_one_le, Nat.le_div_iff_mul_le (Nat.zero_lt_of_lt h), Nat.add_mul, Nat.one_mul]
  omega

/-! ## Ticks of a quiescent state (60_exceptions R236) -/

/-- With both effects idle any number of effect-ticks changes nothing. -/
theorem tickedTo_idle {s : State} (glow : s.glowArmed = false) (alarm : s.alarmArmed = false)
    (none : s.tickPending = false) (e pace : Nat) (d : BitVec 2) :
    tickedTo e pace d s =
      { s with paceCount := pace, an := onehot d, seg := slotPattern s d, digitSlot := d + 1 } := by
  have glowIdle : glowCellStep^[e] (glowCells s) = glowCells s := by
    rw [glowCells, glow, iterate_glowCellStep_idle]
  have alarmIdle : alarmCellStep^[e] (alarmCells s) = alarmCells s := by
    rw [alarmCells, alarm, iterate_alarmCellStep_idle]
  rw [tickedTo, glowIdle, alarmIdle, ← none]
  rfl

theorem tickTimes_stopped (n : Nat) {s : State} (idle : s.tick = Agenda.idle) (stopped : s.tickRun = false)
    (none : s.tickPending = false) : tickTimes n s = s := by
  have still : tickOnce s = s := by
    rw [tickOnce, fireTimer_stopped stopped, performHandler_none (congrArg Agenda.todo idle) none]
  induction n with
  | zero => rfl
  | succ n ih => rw [tickTimes, still, ih]

theorem tickTimes_keepsFaults (n : Nat) (s : State) : KeepsFaults s (tickTimes n s) := by
  induction n generalizing s with
  | zero => exact .refl s
  | succ n ih => exact (performHandler_keepsFaults (fireTimer s)).trans (ih (tickOnce s))

/-- A tick of a running timer that records no fault found a legal DisplayValue. -/
theorem displayLegal_of_unfaulted {n : Nat} {s : State} (idle : s.tick = Agenda.idle) (run : s.tickRun = true)
    (h : Unfaulted (tickTimes (n + 1) s)) : DisplayLegal s := by
  by_contra illegal
  have raised : tickOnce s = muxFaulted (paced { s with tickPending := true }) := by
    rw [tickOnce, fireTimer_running run]
    exact performHandler_fault (s := { s with tickPending := true }) idle rfl illegal
  have held := tickTimes_keepsFaults n (tickOnce s) _ (raised ▸ muxFaulted_holds _)
  rw [show tickTimes n (tickOnce s) = tickTimes (n + 1) s from rfl, h] at held
  cases held

end Sys2Proof.Machine

namespace Sys2Proof.TickSource

open Sys2Proof.Machine

/-- Settles O20: PaceCount counts modulo EFFECT_DIV, its wraps are the effect-ticks, and each effect's cells follow
from their number. -/
theorem blinkOverTicks : Obligations.BlinkOverTicks := by
  intro s n ⟨ht, _⟩ legal run none range
  obtain ⟨done, cells⟩ := blinkCells_tickTimes n ⟨ht, run, legal⟩ none range
  have glow : glowCells (tickTimes n s) = glowCellStep^[_] (glowCells s) := congrArg (·.2.1) cells
  have alarm : alarmCells (tickTimes n s) = alarmCellStep^[_] (alarmCells s) := congrArg (·.2.2) cells
  refine ⟨tickTimes n s, (s.paceCount + n) / Config.effectDiv, runInstrs_tickWords n s,
    fun j => lt_effects_iff range, congrArg (·.1) cells, done, fun on count pin => ?_,
    fun on count pin => ?_, fun off => ?_, fun off => ?_⟩
  · rw [show glowCells s = (true, Config.glowDuration, true) by rw [glowCells, on, count, pin],
      iterate_glowCellStep_clean] at glow
    simp only [glowCells, Prod.mk.injEq] at glow
    exact ⟨glow.2.2, glow.1, glow.2.1⟩
  · rw [show alarmCells s = (true, 0, true) by rw [alarmCells, on, count, pin],
      iterate_alarmCellStep_clean] at alarm
    simp only [alarmCells, Prod.mk.injEq] at alarm
    exact ⟨alarm.2.2, alarm.1, alarm.2.1⟩
  · rw [glowCells, glowCells, off, iterate_glowCellStep_idle] at glow
    simpa only [Prod.mk.injEq] using glow
  · rw [alarmCells, alarmCells, off, iterate_alarmCellStep_idle] at alarm
    simpa only [Prod.mk.injEq] using alarm

/-- Settles O44: with both effects idle a tick moves PaceCount and the display alone, the one modulo EFFECT_DIV, the
other modulo the four slots; a stopped timer moves nothing. -/
theorem quiescence : Obligations.Quiescence := by
  intro s quiet ⟨ht, _⟩ poll
  refine ⟨pollingTurn_of_exit ⟨poll, ht⟩ quiet.exited, fun n unfaulted =>
    ⟨runInstrs_tickWords n s, ?_⟩⟩
  by_cases run : s.tickRun = true
  · cases n with
    | zero => exact ⟨⟨s.paceCount, s.digitSlot, s.an, s.seg, rfl⟩, fun one => absurd one (by decide)⟩
    | succ n =>
      have ticking : Ticking s := ⟨ht, run, displayLegal_of_unfaulted ht run unfaulted⟩
      have closed (m : Nat) := (tickTimes_succ_eq m ticking).trans
        (tickedTo_idle quiet.glowIdle quiet.alarmIdle quiet.notPending _ _ _)
      refine ⟨⟨_, _, _, _, closed n⟩, fun _ range => ?_⟩
      have pace : nextPace^[n + 4 * Config.effectDiv + 1] s.paceCount = nextPace^[n + 1] s.paceCount := by
        rw [(pace_closed_form _ range).1, (pace_closed_form _ range).1, Nat.add_right_comm n, ← Nat.add_assoc,
          Nat.add_mul_mod_self_right]
      have slot : BitVec.ofNat 2 (n + 4 * Config.effectDiv) = BitVec.ofNat 2 n := by
        apply BitVec.eq_of_toNat_eq
        simp only [BitVec.toNat_ofNat, Config.effectDiv]
        omega
      rw [Nat.add_right_comm n 1, closed, closed, pace, slot]
  · have still (m : Nat) : tickTimes m s = s :=
      tickTimes_stopped m ht (Bool.eq_false_of_not_eq_true run) quiet.notPending
    refine ⟨⟨s.paceCount, s.digitSlot, s.an, s.seg, still n⟩, fun _ _ => ?_⟩
    rw [still, still]

end Sys2Proof.TickSource

namespace Sys2Proof.DisplayMux

open Sys2Proof.Machine

/-- Settles O30: the closed form of `n + 1` ticks, whose last slot shown is the `n`-th from DigitSlot. -/
theorem slotCycle : Obligations.SlotCycle := by
  intro s n ⟨ht, _⟩ legal run
  have closed := tickTimes_succ_eq n (s := s) ⟨ht, run, legal⟩
  have shown := segRead_digit (s := { s with digitSlot := s.digitSlot + BitVec.ofNat 2 n }) legal
  refine ⟨tickTimes (n + 1) s, runInstrs_tickWords (n + 1) s, ?_⟩
  rw [closed]
  exact ⟨rfl, shown, rfl, rfl⟩

end Sys2Proof.DisplayMux

namespace Sys2Proof.Reset

open Sys2Proof.Machine

/-- Settles O8: `resetFrom` written out; no timer runs, no tick is pending, and GAME_BOOT has not run. -/
theorem resetLeavesRuleValues : Obligations.ResetLeavesRuleValues := by
  refine ⟨by decide, fun s => ⟨resetFrom s, rfl, rfl, rfl, rfl, rfl, rfl, rfl, rfl, rfl, rfl, rfl, rfl, rfl,
    rfl, rfl, rfl, rfl, rfl, rfl, rfl, rfl, rfl, rfl, rfl, rfl, ?_, ?_, rfl⟩, rfl⟩
  · exact congrArg _ (fireTimer_stopped rfl)
  · exact congrArg _ (performHandler_none rfl rfl)

end Sys2Proof.Reset

namespace Sys2Proof.Machine

/-! ## An operation of the polling context performed whole (46_arithmetic_and_sequencing R202) -/

/-- Such an operation is its task, performed. -/
theorem exec_of_pollTask {i : Instr} {t : Task} (h : pollTask i = some t) (s : State) :
    exec i s = .next (performPoll t s) := by
  cases i with
  | entAdvance e =>
    obtain ⟨entity, operand, rfl⟩ := Option.map_eq_some_iff.mp h
    simp only [exec, execEntAdvance, operand]
  | storePurchase g =>
    obtain ⟨glyph, operand, rfl⟩ := Option.map_eq_some_iff.mp h
    simp only [exec, execStorePurchase, operand]
  | reset | tmrFire | tickHandler | paceStep | effectTick | glowStep | alarmStep | muxStep | irqAck | envKey
  | envSw => cases h
  | _ => cases h; rfl

/-- An operation of the polling context has a task, or an illegal operand, which is refused. -/
theorem exec_poll_cases {i : Instr} (h : i.agent = .poll) :
    (i.wellFormed = true ∧ ∃ t, pollTask i = some t) ∨
      (i.wellFormed = false ∧ ∀ s, exec i s = .refused .illegalOperand) := by
  cases i with
  | reset | tmrFire | tickHandler | paceStep | effectTick | glowStep | alarmStep | muxStep | irqAck | envKey
  | envSw => cases h
  | entAdvance e =>
    have legal := entityOfOperand_legal e
    cases operand : entityOfOperand e with
    | some entity =>
      exact .inl ⟨by rw [← legal, operand]; rfl, .entAdvance entity, congrArg (Option.map _) operand⟩
    | none => exact .inr ⟨by rw [← legal, operand]; rfl, fun s => by simp only [exec, execEntAdvance, operand]⟩
  | storePurchase g =>
    have legal := glyphOfOperand_legal g
    cases operand : glyphOfOperand g with
    | some glyph =>
      exact .inl ⟨by rw [← legal, operand]; rfl, .storePurchase glyph, congrArg (Option.map _) operand⟩
    | none =>
      exact .inr ⟨by rw [← legal, operand]; rfl, fun s => by simp only [exec, execStorePurchase, operand]⟩
  | _ => exact .inl ⟨rfl, _, rfl⟩

/-- An operation of another agent has no illegal operand, and answers a next state. -/
theorem exec_other_agent {i : Instr} (h : i.agent ≠ .poll) :
    i.wellFormed = true ∧ ∀ s, ∃ u, exec i s = .next u := by
  cases i with
  | reset | tmrFire | tickHandler | paceStep | effectTick | glowStep | alarmStep | muxStep | irqAck | envKey
  | envSw => exact ⟨rfl, fun _ => ⟨_, rfl⟩⟩
  | _ => exact absurd rfl h

/-- What exec answers, by whether the operands are legal. -/
theorem exec_cases (i : Instr) :
    (i.wellFormed = true ∧ ∀ s, ∃ u, exec i s = .next u) ∨
      (i.wellFormed = false ∧ ∀ s, exec i s = .refused .illegalOperand) := by
  by_cases agent : i.agent = .poll
  · exact (exec_poll_cases agent).imp
      (fun ⟨legal, t, task⟩ => ⟨legal, fun s => ⟨_, exec_of_pollTask task s⟩⟩) id
  · exact .inl (exec_other_agent agent)

/-! ### Finishing, turn by turn -/

theorem finishTick_finishTick (s : State) : finishTick (finishTick s) = finishTick s :=
  finishTick_none (finishTick_todo s)

theorem performPoll_finishTick (t : Task) (s : State) : performPoll t (finishTick s) = performPoll t s := by
  rw [performPoll, finishTick_finishTick, performPoll]

theorem performTick_finishTick (ts : List TickTask) (s : State) :
    performTick ts (finishTick s) = performTick ts s := by
  rw [performTick, finishTick_finishTick, performTick]

theorem performHandler_finishTick (s : State) : performHandler (finishTick s) = performHandler s := by
  rw [performHandler, finishTick_finishTick, performHandler]

/-- A handler in progress is ended before an operation of either context. -/
theorem exec_finishTick {i : Instr} (h : i.agent = .poll ∨ i.agent = .tick) (s : State) :
    exec i s = exec i (finishTick s) := by
  rcases h with poll | tick
  · rcases exec_poll_cases poll with ⟨-, t, task⟩ | ⟨-, refused⟩
    · rw [exec_of_pollTask task, exec_of_pollTask task, performPoll_finishTick]
    · rw [refused, refused]
  · cases i with
    | tickHandler => exact congrArg Host.Outcome.next (performHandler_finishTick s).symm
    | paceStep | effectTick | glowStep | alarmStep | muxStep | irqAck =>
      exact congrArg Host.Outcome.next (performTick_finishTick _ s).symm
    | _ => cases tick

/-- Working off the polling context's agenda is a number of its turns. -/
theorem drainPoll_eq_turns (n : Nat) {s : State} (idle : s.tick.todo = []) :
    ∃ m : Nat, drainPoll n s = pollingTurn^[m] s := by
  induction n generalizing s with
  | zero => exact ⟨0, rfl⟩
  | succ n ih =>
    cases step : pollStep s with
    | none => exact ⟨0, drainPoll_none _ step⟩
    | some u =>
      obtain ⟨m, turns⟩ := ih ((congrArg Agenda.todo (pollStep_tick step)).trans idle)
      refine ⟨m + 1, ?_⟩
      rw [drainPoll_some n step, turns, Function.iterate_succ_apply, pollingTurn_of_pollStep idle step]

/-- Finishing a handler is a number of turns of the interrupt context. -/
theorem drainTick_eq_turns (n : Nat) (s : State) : ∃ m : Nat, drainTick n s = interruptTurn^[m] s := by
  induction n generalizing s with
  | zero => exact ⟨0, rfl⟩
  | succ n ih =>
    cases step : tickStep s with
    | none => exact ⟨0, drainTick_none _ step⟩
    | some u =>
      obtain ⟨m, turns⟩ := ih u
      refine ⟨m + 1, ?_⟩
      rw [drainTick_some n step, turns, Function.iterate_succ_apply, interruptTurn_of_tickStep step]

/-! ### How an operation performed whole ends -/

theorem drainPoll_tick (n : Nat) (s : State) : (drainPoll n s).tick = s.tick := by
  induction n generalizing s with
  | zero => rfl
  | succ n ih =>
    cases step : pollStep s with
    | none => rw [drainPoll_none _ step]
    | some u => rw [drainPoll_some n step, ih u, pollStep_tick step]

/-- An agenda with nothing left on it is that between two operations. -/
def IdleForm (s : State) : Prop := s.poll.todo = [] → s.poll = Agenda.idle

theorem idleForm_drainPoll (n : Nat) {s : State} (h : IdleForm s) : IdleForm (drainPoll n s) := by
  induction n generalizing s with
  | zero => exact h
  | succ n ih =>
    cases step : pollStep s with
    | none => rw [drainPoll_none _ step]; exact h
    | some u => rw [drainPoll_some n step]; exact ih (pollStep_idle_form step)

theorem idleForm_givePoll (t : Task) (s : State) : IdleForm (givePoll t s) := by
  intro none
  cases todo : s.poll.todo <;> simp [givePoll, Agenda.push, todo] at none

theorem performPoll_ends (t : Task) (s : State) :
    (performPoll t s).tick.todo = [] ∧
      ((performPoll t s).poll = Agenda.idle ∨ Holding (performPoll t s)) := by
  refine ⟨(congrArg Agenda.todo (drainPoll_tick _ _)).trans (finishTick_todo s), ?_⟩
  exact (pollStep_none (finishPoll_stuck _)).imp (idleForm_drainPoll _ (idleForm_givePoll t _)) id

/-! ## SCAN_RESTORE's three outcomes (43_keypad_scanner R161, R166, R167) -/

section

variable {k : Nat} {s : State}

theorem taskStep_scanRestore_last (none : s.colResult = 0) (last : s.ksRow = 3) :
    taskStep .scanRestore k s =
      ({ s with row := setBitAt s.row s.ksRow false, ksPhase := .idle, keyResult := Config.noKey }, .done) :=
  (if_pos none).trans (if_pos last)

theorem taskStep_scanRestore_next (none : s.colResult = 0) (more : s.ksRow ≠ 3) :
    taskStep .scanRestore k s =
      ({ s with row := setBitAt s.row s.ksRow false, ksRow := s.ksRow + 1, ksPhase := .drive },
        .into scanRound) :=
  (if_pos none).trans (if_neg more)

theorem taskStep_scanRestore_hit (hit : s.colResult ≠ 0) :
    taskStep .scanRestore k s =
      ({ s with
          row := setBitAt s.row s.ksRow false, ksHit := some (s.ksRow, leastColumn s.colResult),
          ksPhase := .release },
        .into [.releaseWait, .scanQuiet, .scanReturn]) :=
  if_neg hit

end

/-! ## The scanner's tasks and the rest of the state (43_keypad_scanner, section 4) -/

/-- `u` with the fields a scanner task may write taken from `s`. -/
def scanWrites (s u : State) : State :=
  { u with
    faults := s.faults, draws := s.draws, row := s.row, ksPhase := s.ksPhase, ksRow := s.ksRow,
    ksHit := s.ksHit, keyResult := s.keyResult, colResult := s.colResult }

/-- `u` with the fields a scanner task may read taken from `s`. -/
def scanReads (s u : State) : State :=
  { scanWrites s u with pinsConfigured := s.pinsConfigured, key := s.key }

/-- A micro-step of a scanner task reads and writes the scanner's fields alone. -/
theorem taskStep_scanReads {t : Task} (scanner : rowTask t = true ∨ t = .keyScan) (k : Nat) (s u : State) :
    taskStep t k (scanReads s u) = (scanWrites (taskStep t k s).1 (scanReads s u), (taskStep t k s).2) := by
  cases t with
  | scanDrive | scanSettle | scanSample | scanQuiet | rowDrive | rowRestore => rfl
  | keyScan =>
    by_cases pins : s.pinsConfigured = true <;>
      simp [taskStep, keyScanStep, scanReads, scanWrites, raise, pins]
  | scanRestore =>
    by_cases none : s.colResult = 0
    · by_cases last : s.ksRow = 3
      · rw [taskStep_scanRestore_last none last, taskStep_scanRestore_last (s := scanReads s u) none last]
        rfl
      · rw [taskStep_scanRestore_next none last, taskStep_scanRestore_next (s := scanReads s u) none last]
        rfl
    · rw [taskStep_scanRestore_hit none, taskStep_scanRestore_hit (s := scanReads s u) none]
      rfl
  | scanReturn =>
    cases hit : s.ksHit <;> simp [taskStep, scanReturnStep, scanReads, scanWrites, hit]
  | releaseWait =>
    match k with
    | 0 =>
      cases hit : s.ksHit <;> cases mode : Config.releaseRows <;>
        simp [taskStep, releaseWaitStep, selectReleaseRows, scanReads, scanWrites, hit, mode]
    | 1 =>
      by_cases seen : s.columns = 0
      · rw [show taskStep .releaseWait 1 s = _ from if_pos seen]
        exact if_pos seen
      · rw [show taskStep .releaseWait 1 s = _ from if_neg seen]
        exact if_neg seen
    | _ + 2 => rfl
  | _ => rcases scanner with row | scan <;> contradiction

end Sys2Proof.Machine

namespace Sys2Proof.Whole

open Sys2Proof.Machine

/-- Settles O7: an operation performed whole drains its context's agenda, which is turns of that context. -/
theorem wholeIsTurns : Obligations.WholeIsTurns := by
  refine ⟨fun i t s _ task _ idle => ?_, fun s _ ht pending => ?_, fun i s _ agent =>
    ⟨finishTick_todo s, exec_finishTick agent s⟩⟩
  · obtain ⟨n, turns⟩ := drainPoll_eq_turns (taskFuel * (givePoll t s).poll.todo.length)
      (s := givePoll t s) idle
    refine ⟨n, ?_⟩
    rw [exec_of_pollTask task, performPoll, finishTick_none idle, finishPoll, turns]
  · obtain ⟨n, turns⟩ := drainTick_eq_turns (taskFuel * (enterHandler s).tick.todo.length) (enterHandler s)
    have whole : performHandler s = interruptTurn^[n + 1] s := by
      rw [performHandler_ready ht, if_pos pending, finishTick, turns, Function.iterate_succ_apply,
        interruptTurn_pending (congrArg Agenda.todo ht) pending]
    refine ⟨n + 1, congrArg _ whole, ?_⟩
    rw [← whole, performHandler_ready ht, if_pos pending]
    exact finishTick_todo _

/-- Settles O59: exec refuses exactly the ill-formed operations, and the decoder gives only well-formed ones. -/
theorem onlyIllegalOperandsStop : Obligations.OnlyIllegalOperandsStop := by
  refine ⟨fun i s illegal => ?_, fun i s legal => ?_⟩
  all_goals rcases exec_cases i with ⟨wf, answers⟩ | ⟨wf, refused⟩
  · cases wf.symm.trans illegal
  · refine ⟨refused s, fun w accepted => ?_⟩
    cases (Laws.Encoding.encode_of_decode accepted).2.symm.trans illegal
  · exact answers s
  · cases wf.symm.trans legal

/-- Settles O60: a drained agenda has no micro-step left, so it is empty or stands at an unmet await. -/
theorem endsIdleOrHolding : Obligations.EndsIdleOrHolding := by
  intro i s t _ agent _ run
  rcases exec_poll_cases agent with ⟨-, task, h⟩ | ⟨-, refused⟩
  · rw [exec_of_pollTask h] at run
    cases run
    exact performPoll_ends task s
  · rw [refused] at run
    cases run

end Sys2Proof.Whole

namespace Sys2Proof.KeypadScanner

open Sys2Proof.Machine

/-- Settles O41: the tick side does not see the scanner's fields, and a scanner's task sees nothing else. -/
theorem scannerIndependence : Obligations.ScannerIndependence := by
  refine ⟨fun s m row ph kr hit k res cols a _ agent => ?_,
    fun t stage s u _ scanner pins faults draws row phase ksRow hit key result cols => ?_⟩
  · rw [takeTurn_eq_withScannerOf agent s]
    exact takeTurn_withScannerOf agent
      { s with
        row := row, ksPhase := ph, ksRow := kr, ksHit := hit, key := k, keyResult := res,
        colResult := cols, poll := a } s
  · have same : scanReads s u = u := by
      rw [scanReads, scanWrites, ← pins, ← faults, ← draws, ← row, ← phase, ← ksRow, ← hit, ← key, ← result,
        ← cols]
    have apart := taskStep_scanReads scanner stage s u
    rw [same] at apart
    rw [apart]
    exact ⟨rfl, _, rfl, rfl⟩

end Sys2Proof.KeypadScanner

namespace Sys2Proof.Machine

/-! ## The keys of one row (43_keypad_scanner R160, R166) -/

theorem keyAt_eq_bitAt_keyRow (k : KeyMatrix) (r c : BitVec 2) : keyAt k r c = bitAt (keyRow k r) c := by
  unfold keyAt keyRow
  (repeat' split) <;> rfl

theorem row_cases (r : BitVec 2) : r = 0 ∨ r = 1 ∨ r = 2 ∨ r = 3 := by revert r; decide

theorem exists_row_iff {P : BitVec 2 → Prop} : (∃ r, P r) ↔ P 0 ∨ P 1 ∨ P 2 ∨ P 3 := by
  refine ⟨fun ⟨r, h⟩ => ?_, fun h => ?_⟩
  · rcases row_cases r with rfl | rfl | rfl | rfl
    exacts [.inl h, .inr (.inl h), .inr (.inr (.inl h)), .inr (.inr (.inr h))]
  · rcases h with h | h | h | h <;> exact ⟨_, h⟩

/-- With one row selected the columns show the keys of that row. -/
theorem colSnapshot_onehot (r : BitVec 2) (k : KeyMatrix) : colSnapshot (onehot r) k = keyRow k r := by
  rcases row_cases r with rfl | rfl | rfl | rfl <;> simp [colSnapshot, bitAt_onehot, rowKeys, keyRow]

/-- Column c is asserted where some selected row has its key c pressed. -/
theorem bitAt_colSnapshot (row : BitVec 4) (k : KeyMatrix) (c : BitVec 2) :
    bitAt (colSnapshot row k) c = true ↔ ∃ r : BitVec 2, bitAt row r = true ∧ keyAt k r c = true := by
  have selected (b : Bool) (keys : BitVec 4) : bitAt (rowKeys b keys) c = (b && bitAt keys c) := by
    cases b <;> simp [rowKeys, bitAt]
  have union (v w : BitVec 4) : bitAt (v ||| w) c = (bitAt v c || bitAt w c) := by simp [bitAt]
  rw [exists_row_iff]
  simp [colSnapshot, union, selected, keyAt, or_assoc]

theorem leastColumn_spec (cols : BitVec 4) (h : cols ≠ 0) :
    bitAt cols (leastColumn cols) = true ∧
      ∀ c : BitVec 2, bitAt cols c = true → (leastColumn cols).toNat ≤ c.toNat := by
  revert cols; decide

theorem leastColumn_eq (cols : BitVec 4) (c : BitVec 2) (pressed : bitAt cols c = true)
    (least : ∀ c' : BitVec 2, bitAt cols c' = true → c.toNat ≤ c'.toNat) : leastColumn cols = c := by
  revert cols c; decide

theorem eq_zero_of_bitAt (cols : BitVec 4) (h : ∀ c : BitVec 2, bitAt cols c = false) : cols = 0 := by
  revert cols; decide

theorem bitAt_releaseSelect (mode : ReleaseRows) (r : BitVec 2) : bitAt (releaseSelect mode r 0) r = true := by
  cases mode <;> revert r <;> decide

section

variable {k : KeyMatrix} {r c : BitVec 2} (first : FirstKey k r c)

include first

theorem FirstKey.keyRow_ne_zero : keyRow k r ≠ 0 := by
  intro none
  have pressed := first.1
  rw [keyAt_eq_bitAt_keyRow, none] at pressed
  simp [bitAt] at pressed

/-- No key of an earlier row is pressed. -/
theorem FirstKey.keyRow_earlier {r' : BitVec 2} (earlier : r'.toNat < r.toNat) : keyRow k r' = 0 := by
  refine eq_zero_of_bitAt _ fun c' => Bool.eq_false_of_not_eq_true fun pressed => ?_
  rw [← keyAt_eq_bitAt_keyRow] at pressed
  rcases first.2 r' c' pressed with later | ⟨rfl, -⟩
  · omega
  · exact lt_irrefl _ earlier

theorem FirstKey.leastColumn_keyRow : leastColumn (keyRow k r) = c := by
  refine leastColumn_eq _ c (keyAt_eq_bitAt_keyRow k r c ▸ first.1) fun c' pressed => ?_
  rw [← keyAt_eq_bitAt_keyRow] at pressed
  rcases first.2 r c' pressed with later | ⟨-, le⟩
  · exact absurd later (lt_irrefl _)
  · exact le

/-- The rows watched in the release-wait include the row of the key. -/
theorem FirstKey.columns_releaseSelect (mode : ReleaseRows) : colSnapshot (releaseSelect mode r 0) k ≠ 0 := by
  intro none
  have asserted := (bitAt_colSnapshot (releaseSelect mode r 0) k c).mpr
    ⟨r, bitAt_releaseSelect mode r, first.1⟩
  rw [none] at asserted
  simp [bitAt] at asserted

end

/-! ## KEY_SCAN with a key pressed (43_keypad_scanner R161, R166) -/

/-- A round at its sample: the row of KS_ROW selected and its keys seen. -/
def scanSampled (s : State) : State :=
  { s with row := onehot s.ksRow, ksPhase := .sample, colResult := keyRow s.key s.ksRow }

/-- A round up to its sample, from no row selected. -/
theorem performs_scan_sample_row {s : State} (unselected : s.row = 0) :
    Performs [.scanDrive, .scanSettle, .scanSample] s
      (scanSampled s) := by
  have driven : setBitAt s.row s.ksRow true = onehot s.ksRow := by rw [unselected, setBitAt_zero_true]
  have sample : Performs [.scanSample] { s with row := setBitAt s.row s.ksRow true, ksPhase := .sample }
      { s with row := onehot s.ksRow, ksPhase := .sample, colResult := keyRow s.key s.ksRow } := by
    refine performs_of_done ?_
    simp only [taskStep, scanSampleStep, sampleColumns, State.columns, driven, colSnapshot_onehot]
  exact (performs_of_done rfl).cons ((performs_of_done rfl).cons sample)

theorem holding_scanHeld {s : State} {r c : BitVec 2} (first : FirstKey s.key r c) (rest : List Task) :
    Holding (scanHeld r c rest s) := ⟨rfl, rfl, first.columns_releaseSelect _⟩

/-- The round that finds a key ends in the hold of the release-wait. -/
theorem finishPoll_scanRound_hit {s : State} {c : BitVec 2} (unselected : s.row = 0)
    (first : FirstKey s.key s.ksRow c) (rest : List Task) :
    finishPoll { s with poll := ⟨scanRound ++ rest, 0⟩ } = scanHeld s.ksRow c rest s := by
  have restored : taskStep .scanRestore 0 (scanSampled s) =
      ({ s with
          row := 0, ksPhase := .release, ksHit := some (s.ksRow, c), colResult := keyRow s.key s.ksRow },
        .into [.releaseWait, .scanQuiet, .scanReturn]) := by
    rw [taskStep_scanRestore_hit (s := scanSampled s) first.keyRow_ne_zero]
    simp only [scanSampled, setBitAt_onehot_false, first.leastColumn_keyRow]
  refine ((performs_scan_sample_row unselected).finish (.scanRestore :: rest)).trans ?_
  refine ((finishPoll_cons restored rfl).trans (finishPoll_cons rfl rfl)).trans ?_
  exact finishPoll_of_holding (holding_scanHeld first rest)

/-- A round without a key goes on with the next row's. -/
theorem finishPoll_scanRound_next {s : State} (unselected : s.row = 0) (none : keyRow s.key s.ksRow = 0)
    (more : s.ksRow ≠ 3) (rest : List Task) :
    finishPoll { s with poll := ⟨scanRound ++ rest, 0⟩ } =
      finishPoll { s with
        row := 0, ksPhase := .drive, colResult := 0, ksRow := s.ksRow + 1, poll := ⟨scanRound ++ rest, 0⟩ } := by
  have restored : taskStep .scanRestore 0 (scanSampled s) =
      ({ s with row := 0, ksPhase := .drive, colResult := 0, ksRow := s.ksRow + 1 }, .into scanRound) := by
    rw [taskStep_scanRestore_next (s := scanSampled s) none more]
    simp only [scanSampled, setBitAt_onehot_false, none]
  refine ((performs_scan_sample_row unselected).finish (.scanRestore :: rest)).trans ?_
  exact finishPoll_cons restored rfl

/-- The rounds up to the first row with a key pressed, by induction on how many rows come before it. -/
theorem finishPoll_scanRounds_hit (n : Nat) {s : State} {r c : BitVec 2} (unselected : s.row = 0)
    (first : FirstKey s.key r c) (left : s.ksRow.toNat + n = r.toNat) (rest : List Task) :
    finishPoll { s with poll := ⟨scanRound ++ rest, 0⟩ } = scanHeld r c rest s := by
  induction n generalizing s with
  | zero =>
    have here : s.ksRow = r := BitVec.eq_of_toNat_eq left
    subst here
    exact finishPoll_scanRound_hit unselected first rest
  | succ n ih =>
    have more : s.ksRow ≠ 3 := by bv_omega
    have left' : (s.ksRow + 1).toNat + n = r.toNat := by bv_omega
    rw [finishPoll_scanRound_next unselected (first.keyRow_earlier (by omega)) more]
    exact ih (s := { s with row := 0, ksPhase := .drive, colResult := 0, ksRow := s.ksRow + 1 }) rfl first left'

theorem finishPoll_keyScan_hit {s : State} {r c : BitVec 2} (pins : s.pinsConfigured = true)
    (unselected : s.row = 0) (first : FirstKey s.key r c) (rest : List Task) :
    finishPoll { s with poll := ⟨.keyScan :: rest, 0⟩ } = scanHeld r c rest s := by
  have begun : taskStep .keyScan 0 s =
    ({ s with ksHit := none, ksRow := 0, ksPhase := .drive }, .into scanRound) := if_pos pins
  refine (finishPoll_cons begun rfl).trans ?_
  exact finishPoll_scanRounds_hit r.toNat (s := { s with ksHit := none, ksRow := 0, ksPhase := .drive })
    unselected first (Nat.zero_add _) rest

/-! ## The turns of a scan without a key (43_keypad_scanner R167) -/

section

variable {s : State} (idle : s.tick.todo = []) (h : NoKey s) (rest : List Task)

include idle h

/-- A round without a key is four turns: its sample is 0000, and its last turn restores the row. -/
theorem pollingTurn_emptyRound {u : State} {a : Agenda Task} {c : Ctl Task}
    (restored : taskStep .scanRestore 0
      { s with row := setBitAt s.row s.ksRow true, ksPhase := .sample, colResult := 0 } = (u, c))
    (ha : c.agenda .scanRestore rest 0 = some a) :
    pollingTurn^[4] { s with poll := ⟨scanRound ++ rest, 0⟩ } = { u with poll := a } := by
  have unasserted : colSnapshot (setBitAt s.row s.ksRow true) s.key = 0 :=
    columns_of_noKey (s := { s with row := setBitAt s.row s.ksRow true }) h
  have driven := pollingTurn_cons (t := .scanDrive) (k := 0)
    (rest := .scanSettle :: .scanSample :: .scanRestore :: rest)
    idle rfl rfl
  have settled := pollingTurn_cons (t := .scanSettle) (k := 0) (rest := .scanSample :: .scanRestore :: rest)
    (s := { s with row := setBitAt s.row s.ksRow true, ksPhase := .settle }) idle rfl rfl
  have sampled : pollingTurn
      { s with
        row := setBitAt s.row s.ksRow true, ksPhase := .sample,
        poll := ⟨.scanSample :: .scanRestore :: rest, 0⟩ } =
      { s with
        row := setBitAt s.row s.ksRow true, ksPhase := .sample, colResult := 0,
        poll := ⟨.scanRestore :: rest, 0⟩ } := by
    rw [← unasserted]
    exact pollingTurn_cons (t := .scanSample) (k := 0)
      (s := { s with row := setBitAt s.row s.ksRow true, ksPhase := .sample }) idle rfl rfl
  calc pollingTurn^[4] { s with poll := ⟨scanRound ++ rest, 0⟩ }
      = pollingTurn^[3] _ := congrArg pollingTurn^[3] driven
    _ = pollingTurn^[2] _ := congrArg pollingTurn^[2] settled
    _ = pollingTurn _ := congrArg pollingTurn sampled
    _ = _ := pollingTurn_cons (s := { s with
        row := setBitAt s.row s.ksRow true, ksPhase := .sample, colResult := 0 }) idle restored ha

end

/-- The turns of the rounds from KS_ROW to the last row, by induction on how many rows come after KS_ROW. -/
theorem pollingTurn_emptyRounds (n : Nat) {s : State} (idle : s.tick.todo = []) (h : NoKey s)
    (left : s.ksRow.toNat + n = 3) (rest : List Task) :
    pollingTurn^[4 * (n + 1)] { s with poll := ⟨scanRound ++ rest, 0⟩ } =
      { scannedNoKey s with
        row := restoredFrom s.ksRow s.row, ksHit := s.ksHit, poll := ⟨rest, 0⟩ } := by
  induction n generalizing s with
  | zero =>
    have last : s.ksRow = 3 := BitVec.eq_of_toNat_eq left
    rw [Nat.zero_add, Nat.mul_one,
      pollingTurn_emptyRound idle h rest (taskStep_scanRestore_last rfl last) rfl]
    simp only [setBitAt_driven_restored, last, restoredFrom_last, scannedNoKey]
  | succ n ih =>
    have more : s.ksRow ≠ 3 := by bv_omega
    have left' : (s.ksRow + 1).toNat + n = 3 := by bv_omega
    rw [Nat.mul_succ, Function.iterate_add_apply,
      pollingTurn_emptyRound idle h rest (taskStep_scanRestore_next rfl more) rfl]
    simp only [setBitAt_driven_restored]
    have next := ih (s := { s with
      row := setBitAt s.row s.ksRow false, colResult := 0, ksRow := s.ksRow + 1, ksPhase := .drive })
      idle h left'
    simp only [restoredFrom_next _ _ more] at next
    exact next

/-- The quiet period and the return (43_keypad_scanner R169, R170). -/
theorem pollingTurn_quietReturn {s : State} {r c : BitVec 2} (idle : s.tick.todo = [])
    (hit : s.ksHit = some (r, c)) (rest : List Task) :
    pollingTurn (pollingTurn { s with poll := ⟨.scanQuiet :: .scanReturn :: rest, 0⟩ }) =
      { s with ksPhase := .idle, keyResult := keyCode r c, poll := ⟨rest, 0⟩ } := by
  have returned : taskStep .scanReturn 0 { s with ksPhase := .quiet } =
      ({ s with ksPhase := .idle, keyResult := keyCode r c }, .done) := by
    simp only [taskStep, scanReturnStep, hit]
  rw [pollingTurn_cons (t := .scanQuiet) (k := 0) (rest := .scanReturn :: rest) idle rfl rfl]
  exact pollingTurn_cons (s := { s with ksPhase := .quiet }) idle returned rfl

/-! ## The key codes of the Game Loop's states (30_encoding R83, log 12) -/

theorem codeOfKey_injective : Function.Injective codeOfKey := by decide

/-- Different places in a state's choice of keys have different codes. -/
theorem nodup_codes (keys : Equiv.Perm (Fin 16)) {places : List (Fin 16)} (h : places.Nodup) :
    (places.map fun n => codeOfKey (keys n)).Nodup :=
  h.map (codeOfKey_injective.comp keys.injective)

theorem nodup_menuCodes : [kPlay, kExit, kStore].Nodup :=
  nodup_codes Config.menuKeys (by decide : ([0, 1, 2] : List (Fin 16)).Nodup)

theorem nodup_tierCodes : [kTier 0, kTier 1].Nodup :=
  nodup_codes Config.tierKeys (by decide : ([0, 1] : List (Fin 16)).Nodup)

theorem nodup_storeCodes : [kBuy 0, kBuy 1, kBuy 2, kBack].Nodup :=
  nodup_codes Config.storeKeys (by decide : ([0, 1, 2, 3] : List (Fin 16)).Nodup)

end Sys2Proof.Machine

namespace Sys2Proof.KeypadScanner

open Sys2Proof.Machine

/-- Settles O34: the entry and four empty rounds; a sample of 0000 goes on with the next row or, after the last,
returns NOKEY. -/
theorem keyScanNoKey : Obligations.KeyScanNoKey := by
  refine ⟨by decide, fun s ready pins unpressed => ⟨?_, ?_⟩, fun s rest _ idle place zero => ⟨fun more => ?_,
    fun last => ?_⟩⟩
  · exact exec_of_performs rfl ready.betweenOps (performs_keyScan_noKey pins unpressed)
  · obtain ⟨poll, tick, -⟩ := id ready
    have idle : s.tick.todo = [] := congrArg Agenda.todo tick
    have entered : taskStep .keyScan 0 s =
      ({ s with ksHit := none, ksRow := 0, ksPhase := .drive }, .into scanRound) := if_pos pins
    have begun : pollingTurn (givePoll .keyScan s) =
        { s with ksHit := none, ksRow := 0, ksPhase := .drive, poll := ⟨scanRound ++ [], 0⟩ } := by
      rw [givePoll_of_betweenOps ready.betweenOps]
      exact pollingTurn_cons (rest := []) idle entered rfl
    rw [Nat.add_comm, Function.iterate_succ_apply, begun]
    refine (pollingTurn_emptyRounds 3 (s := { s with ksHit := none, ksRow := 0, ksPhase := .drive }) idle unpressed
      rfl []).trans ?_
    rw [restoredFrom_first, ← show s.poll = ⟨[], 0⟩ from poll]
    rfl
  · exact pollingTurn_of_taskStep place (taskStep_scanRestore_next zero more) rfl idle
  · exact pollingTurn_of_taskStep place (taskStep_scanRestore_last zero last) rfl idle

/-- Settles O35: empty rounds up to the key's row, whose sample has the key as its least column; the hold watches
that row. -/
theorem keyScanHit : Obligations.KeyScanHit := by
  refine ⟨fun s r c ready pins unselected first => ⟨?_, holding_scanHeld first []⟩,
    fun s rest _ idle place hit => ?_⟩
  · obtain ⟨poll, tick, -⟩ := ready
    have held := finishPoll_keyScan_hit pins unselected first []
    rw [← performPoll_eq_finishPoll tick poll] at held
    exact congrArg _ held
  · obtain ⟨asserted, least⟩ := leastColumn_spec s.colResult hit
    exact ⟨_, asserted, least, pollingTurn_of_taskStep place (taskStep_scanRestore_hit hit) rfl idle⟩

/-- Settles O36: the await, the restored rows, the quiet period and the return, one turn each, none of which reads a
key once the snapshot was 0000; every step keeps the result legal. -/
theorem keyReturned : Obligations.KeyReturned := by
  refine ⟨fun s r c rest _ idle place hit seen => ?_, fun s r c k rest _ idle place hit => ?_, fun _ _ => rfl,
    fun s s' _ h step => kept_keyResultLegal.step s s' step h⟩
  · have awaited : pollingTurn s = { s with poll := ⟨.releaseWait :: .scanQuiet :: .scanReturn :: rest, 2⟩ } :=
      pollingTurn_of_taskStep place (if_pos seen) rfl idle
    have restored : pollingTurn { s with poll := ⟨.releaseWait :: .scanQuiet :: .scanReturn :: rest, 2⟩ } =
        { s with row := 0, poll := ⟨.scanQuiet :: .scanReturn :: rest, 0⟩ } :=
      pollingTurn_cons (k := 2) idle rfl rfl
    calc pollingTurn^[4] s = pollingTurn^[3] _ := congrArg pollingTurn^[3] awaited
      _ = pollingTurn^[2] _ := congrArg pollingTurn^[2] restored
      _ = _ := pollingTurn_quietReturn (s := { s with row := 0 }) idle hit rest
  · rw [← setPoll_self (s := { s with key := k }) place]
    exact pollingTurn_quietReturn (s := { s with key := k }) idle hit rest

/-- Settles O38: the rows selected are those of `releaseSelect`; the hold ends on a snapshot of 0000, and the turn
that restores the rows reads no column. -/
theorem releaseWait : Obligations.ReleaseWait := by
  refine ⟨by decide, fun _ _ => ⟨rfl, rfl⟩, fun s r c ready hit => ?_, fun s rest _ idle place =>
    ⟨fun held => ?_, fun seen => ?_, fun seen => ?_⟩, fun s k rest _ idle place => ?_⟩
  · have select : selectReleaseRows s =
        { s with row := releaseSelect Config.releaseRows r s.row, draws := s.draws } := by
      simp only [selectReleaseRows, hit]
    exact congrArg _ (performPoll_releaseWait ready.betweenOps select)
  · exact pollingTurn_of_holding ⟨by rw [place]; rfl, by rw [place], held⟩
  · exact pollingTurn_of_taskStep place (if_pos seen) rfl idle
  · rw [pollingTurn_of_taskStep place (if_pos seen) rfl idle]
    exact pollingTurn_cons (k := 2) idle rfl rfl
  · rw [← setPoll_self (s := { s with key := k }) place]
    exact pollingTurn_cons (t := .releaseWait) (k := 2) (s := { s with key := k }) idle rfl rfl

/-- Settles O31: one row line is written, and no other bit of ROW. -/
theorem rowLines : Obligations.RowLines := by
  refine fun r => ⟨by revert r; decide, by revert r; decide, fun s ready => ⟨?_, ?_⟩⟩
  · exact ⟨{ s with row := setBitAt s.row r true },
      exec_of_performs rfl ready.betweenOps (performs_of_done rfl), rfl, fun j => bitAt_setBitAt s.row r j true⟩
  · exact ⟨{ s with row := setBitAt s.row r false },
      exec_of_performs rfl ready.betweenOps (performs_of_done rfl), rfl, fun j => bitAt_setBitAt s.row r j false⟩

/-- Settles O32: the snapshot is the OR over the selected rows of their keys. -/
theorem colSample : Obligations.ColSample := by
  refine ⟨by decide, fun s ready => exec_of_performs rfl ready.betweenOps (performs_of_done rfl),
    fun s c => bitAt_colSnapshot s.row s.key c, fun s unselected => ?_⟩
  rw [State.columns, unselected]
  exact colSnapshot_no_row s.key

/-- Settles O33: each is one micro-step that writes nothing. -/
theorem noStateChange : Obligations.NoStateChange := by
  refine ⟨by decide, by decide, by decide, fun d => ?_, fun b => ⟨?_, ?_⟩, by decide, fun s ready => ?_⟩
  · rw [encode, Instr.opn, Instr.arg, BitVec.ofNat_add, BitVec.ofNat_toNat]
  · rw [encode, Instr.opn, Instr.arg, BitVec.ofNat_add, BitVec.ofNat_toNat]
  · rw [encode, Instr.opn, Instr.arg, BitVec.ofNat_add, BitVec.ofNat_toNat]
  · have idle := ready.betweenOps
    have delay (d : Delay) {i : Instr} (run : exec i s = .next (performPoll (.delay d) s)) :=
      exec_of_performs run idle (performs_delay d s)
    have call (c : Collab) {i : Instr} (run : exec i s = .next (performPoll (.call c) s)) :=
      exec_of_performs run idle (performs_call c s)
    exact ⟨delay .settle rfl, delay .quiet rfl, call .audioPulse rfl, fun d => delay (.wait d) rfl,
      fun b => ⟨call (.lcdCommand b) rfl, call (.lcdGlyph b) rfl⟩,
      fun row col => call (.lcdCursor row col) rfl⟩

/-- Settles O40: the codes row by row; those of a state of the Game Loop are the codes of different keys. -/
theorem keyCodes : Obligations.KeyCodes := by
  refine ⟨by decide, by decide, ⟨nodup_menuCodes, nodup_tierCodes, nodup_storeCodes⟩, ?_⟩
  have legal (n : Fin 16) : codeOfKey n ≠ Config.noKey ∧ ∃ r c : BitVec 2, codeOfKey n = keyCode r c :=
    ⟨(noKey_ne_codeOfKey n).symm, _, _, rfl⟩
  intro k hk
  simp only [List.mem_cons, List.not_mem_nil, or_false] at hk
  rcases hk with rfl | rfl | rfl | rfl | rfl | rfl | rfl | rfl | rfl <;> exact legal _

end Sys2Proof.KeypadScanner

namespace Sys2Proof.Machine

/-! ## Between two operations (44_game_loop R180, 46_arithmetic_and_sequencing R202) -/

theorem pollingTurn_between {s : State} {ts : List Task} (idle : s.tick.todo = []) (place : s.poll = Agenda.idle)
    (next : gameLoopNext s = ts) : pollingTurn s = { s with poll := ⟨ts, 0⟩ } := by
  have none : s.poll.todo = [] := congrArg Agenda.todo place
  simp only [pollingTurn, idle, none, next]

theorem gameLoopNext_unbooted {s : State} (unbooted : s.booted = false) (entered : s.gameState ≠ .exit) :
    gameLoopNext s = [.gameBoot] := by
  unfold gameLoopNext
  split
  case h_1 exited => exact absurd exited entered
  all_goals exact if_neg (by simp [unbooted])

/-! ## GAME_BOOT and the boot order (44_game_loop R181, 70_reset_and_hazards) -/

theorem performs_gameBoot (s : State) : Performs [.gameBoot] s
    { s with pinsConfigured := true, tickRun := true, gameState := .menu, booted := true } :=
  have started : Performs [.tickStart] { s with pinsConfigured := true }
      { s with pinsConfigured := true, tickRun := true } := performs_of_done rfl
  performs_of_into rfl ((performs_of_done rfl).cons
    (started.cons ((performs_call _ _).cons (performs_of_done rfl))))

theorem exec_of_finishPoll {i : Instr} {t : Task} {s u : State} (run : exec i s = .next (performPoll t s))
    (hs : BetweenOps s) (h : finishPoll { s with poll := ⟨[t], 0⟩ } = u) : exec i s = .next u := by
  obtain ⟨poll, tick⟩ := hs
  rw [run, performPoll_eq_finishPoll tick poll, h]

/-- A fault ends the whole operation its task stands in, and leaves the context between two operations. -/
theorem finishPoll_of_raised {t : Task} {f : FaultName} {s : State}
    (h : taskStep t 0 s = (raise f s, .raised)) (place : s.poll = Agenda.idle) (rest : List Task) :
    finishPoll { s with poll := ⟨t :: rest, 0⟩ } = raise f s := by
  rw [finishPoll_cons h rfl, finishPoll_none rfl]
  exact setPoll_self (s := raise f s) place

section

variable {s : State} (unconfigured : s.pinsConfigured = false)

include unconfigured

theorem taskStep_tickStart_unconfigured : taskStep .tickStart 0 s = (raise .bootOrder s, .raised) :=
  if_neg (Bool.not_eq_true _ ▸ unconfigured)

theorem taskStep_keyScan_unconfigured : taskStep .keyScan 0 s = (raise .bootOrder s, .raised) :=
  if_neg (Bool.not_eq_true _ ▸ unconfigured)

end

/-! ## The iterations up to their scan (44_game_loop R182, R183, R191) -/

section

variable (s : State)

theorem finishPoll_menuIter : finishPoll { s with poll := ⟨[.menuIter], 0⟩ } =
    finishPoll { writeDisplayCurrency s with poll := ⟨[.keyScan, .menuRoute], 0⟩ } :=
  (finishPoll_cons rfl rfl).trans ((performs_dvCurrency s).finish [.keyScan, .menuRoute])

theorem finishPoll_modeselIter : finishPoll { s with poll := ⟨[.modeselIter], 0⟩ } =
    finishPoll { s with poll := ⟨[.keyScan, .modeselRoute], 0⟩ } :=
  finishPoll_cons rfl rfl

theorem finishPoll_storeIter : finishPoll { s with poll := ⟨[.storeIter], 0⟩ } =
    finishPoll { s with poll := ⟨[.keyScan, .storeRoute], 0⟩ } :=
  (finishPoll_cons rfl rfl).trans ((performs_call .lcdText s).finish [.keyScan, .storeRoute])

end

/-! ## The test of the key code (44_game_loop R182, R183, R191) -/

section

variable {s : State}

theorem taskStep_menuRoute_play (h : s.keyResult = kPlay) :
    taskStep .menuRoute 0 s = ({ s with gameState := .modeSelect }, .done) := if_pos h

theorem taskStep_menuRoute_exit (h : s.keyResult = kExit) : taskStep .menuRoute 0 s = (s, .into [.gameExit]) := by
  have distinct := nodup_menuCodes
  simp only [List.nodup_cons, List.mem_cons] at distinct
  have notPlay : s.keyResult ≠ kPlay := by grind
  exact (if_neg notPlay).trans (if_pos h)

theorem taskStep_menuRoute_store (h : s.keyResult = kStore) :
    taskStep .menuRoute 0 s = ({ s with gameState := .store }, .done) := by
  have distinct := nodup_menuCodes
  simp only [List.nodup_cons, List.mem_cons] at distinct
  have notPlay : s.keyResult ≠ kPlay := by grind
  have notExit : s.keyResult ≠ kExit := by grind
  exact (if_neg notPlay).trans ((if_neg notExit).trans (if_pos h))

theorem taskStep_menuRoute_other (notPlay : s.keyResult ≠ kPlay) (notExit : s.keyResult ≠ kExit)
    (notStore : s.keyResult ≠ kStore) : taskStep .menuRoute 0 s = (s, .done) :=
  (if_neg notPlay).trans ((if_neg notExit).trans (if_neg notStore))

theorem taskStep_modeselRoute_tier {t : BitVec 1} (h : s.keyResult = kTier t) :
    taskStep .modeselRoute 0 s = ({ s with speedTier := t }, .into [.playEnter]) := by
  have distinct := nodup_tierCodes
  simp only [List.nodup_cons, List.mem_cons] at distinct
  obtain rfl | rfl : t = 0 ∨ t = 1 := by clear h; revert t; decide
  · exact if_pos h
  · have notFirst : s.keyResult ≠ kTier 0 := by grind
    exact (if_neg notFirst).trans (if_pos h)

theorem taskStep_modeselRoute_other (notFirst : s.keyResult ≠ kTier 0) (notSecond : s.keyResult ≠ kTier 1) :
    taskStep .modeselRoute 0 s = (s, .done) := (if_neg notFirst).trans (if_neg notSecond)

theorem taskStep_storeRoute_buy {i : Fin 3} (h : s.keyResult = kBuy i) :
    taskStep .storeRoute 0 s = (s, .into [.storePurchase i]) := by
  have distinct := nodup_storeCodes
  simp only [List.nodup_cons, List.mem_cons] at distinct
  match i with
  | 0 => exact if_pos h
  | 1 =>
    have notFirst : s.keyResult ≠ kBuy 0 := by grind
    exact (if_neg notFirst).trans (if_pos h)
  | 2 =>
    have notFirst : s.keyResult ≠ kBuy 0 := by grind
    have notSecond : s.keyResult ≠ kBuy 1 := by grind
    exact (if_neg notFirst).trans ((if_neg notSecond).trans (if_pos h))

theorem taskStep_storeRoute_noBuy (h : ∀ i : Fin 3, s.keyResult ≠ kBuy i) : taskStep .storeRoute 0 s =
    if s.keyResult = kBack then ({ s with gameState := .menu }, .done) else (s, .done) :=
  (if_neg (h 0)).trans ((if_neg (h 1)).trans (if_neg (h 2)))

theorem taskStep_storeRoute_back (h : s.keyResult = kBack) :
    taskStep .storeRoute 0 s = ({ s with gameState := .menu }, .done) := by
  have distinct := nodup_storeCodes
  simp only [List.nodup_cons, List.mem_cons] at distinct
  have noBuy (i : Fin 3) : s.keyResult ≠ kBuy i := by
    match i with
    | 0 | 1 | 2 => grind
  exact (taskStep_storeRoute_noBuy noBuy).trans (if_pos h)

section

variable (h : s.keyResult = Config.noKey)

include h

/-- NOKEY is no key's code, so it selects nothing. -/
theorem keyResult_ne_codeOfKey (n : Fin 16) : s.keyResult ≠ codeOfKey n := h ▸ noKey_ne_codeOfKey n

theorem performs_modeselRoute_noKey : Performs [.modeselRoute] s s :=
  performs_of_done (taskStep_modeselRoute_other (keyResult_ne_codeOfKey h _) (keyResult_ne_codeOfKey h _))

theorem performs_storeRoute_noKey : Performs [.storeRoute] s s :=
  performs_of_done ((taskStep_storeRoute_noBuy fun _ => keyResult_ne_codeOfKey h _).trans
    (if_neg (keyResult_ne_codeOfKey h _)))

end

theorem performs_modeselIter_noKey (pins : s.pinsConfigured = true) (h : NoKey s) :
    Performs [.modeselIter] s (scannedNoKey s) :=
  performs_of_into rfl ((performs_keyScan_noKey pins h).cons (performs_modeselRoute_noKey rfl))

theorem performs_storeIter_noKey (pins : s.pinsConfigured = true) (h : NoKey s) :
    Performs [.storeIter] s (scannedNoKey s) :=
  performs_of_into rfl ((performs_call .lcdText s).cons
    ((performs_keyScan_noKey pins h).cons (performs_storeRoute_noKey rfl)))

end

theorem edgeFlips_rising (prev now : Bool) :
    edgeFlips .rising prev now = decide (prev = false ∧ now = true) := by revert prev now; decide

theorem edgeFlips_both (prev now : Bool) : edgeFlips .both prev now = decide (prev ≠ now) := by
  revert prev now; decide

end Sys2Proof.Machine

namespace Sys2Proof.GameLoop

open Sys2Proof.Machine

/-- Settles O15: without the pins configured the first micro-step raises BootOrder and ends the operation. -/
theorem bootOrder : Obligations.BootOrder := by
  refine ⟨by decide, fun s ready pins => ?_, fun s ready unconfigured => ?_⟩
  · exact exec_of_performs rfl ready.betweenOps (performs_of_done (if_pos pins))
  · have between := ready.betweenOps
    obtain ⟨place, -⟩ := id between
    exact ⟨exec_of_finishPoll rfl between
        (finishPoll_of_raised (taskStep_tickStart_unconfigured unconfigured) place []),
      exec_of_finishPoll rfl between
        (finishPoll_of_raised (taskStep_keyScan_unconfigured unconfigured) place [])⟩

/-- Settles O45: GAME_BOOT's four parts; between two operations the turn begins what `gameLoopNext` says. -/
theorem gameBoot : Obligations.GameBoot := by
  refine ⟨by decide, fun s ready => exec_of_performs rfl ready.betweenOps (performs_gameBoot s),
    fun s _ idle place => ?_, rfl, rfl, rfl, rfl, rfl⟩
  have begins {ts : List Task} (next : gameLoopNext s = ts) := pollingTurn_between idle place next
  refine ⟨fun unbooted entered => begins (gameLoopNext_unbooted unbooted entered),
    fun booted => ⟨fun state => ?_, fun state => ?_, fun state => ?_, fun state => ?_⟩, fun exited => ?_⟩
  case refine_5 => exact (begins (by simp only [gameLoopNext, exited])).trans (setPoll_self place)
  all_goals exact begins (by simp only [gameLoopNext, state, booted, if_true])

/-- Settles O46: the scan returns NOKEY, which no test of the key code accepts; or it raises BootOrder. -/
theorem iterationsWithoutKey : Obligations.IterationsWithoutKey := by
  refine ⟨by decide, by decide, by decide, fun s ready pins unpressed => ?_, fun s ready unconfigured => ?_⟩
  · have between := ready.betweenOps
    refine ⟨exec_of_performs rfl between (performs_modeselIter_noKey pins unpressed),
      exec_of_performs rfl between (performs_storeIter_noKey pins unpressed), fun fits => ?_⟩
    rw [← writeDisplayCurrency_of_fits fits]
    exact exec_of_performs rfl between (performs_menuIter_noKey pins unpressed)
  · have between := ready.betweenOps
    obtain ⟨place, -⟩ := id between
    have scan (v : BitVec dvWidth) (rest : List Task) := finishPoll_of_raised
      (s := { s with displayValue := v }) (taskStep_keyScan_unconfigured unconfigured) place rest
    refine ⟨exec_of_finishPoll rfl between ((finishPoll_modeselIter s).trans (scan _ _)),
      exec_of_finishPoll rfl between ((finishPoll_storeIter s).trans (scan _ _)), fun fits => ?_⟩
    refine exec_of_finishPoll rfl between ((finishPoll_menuIter s).trans ?_)
    rw [writeDisplayCurrency_of_fits fits]
    exact scan _ _

/-- Settles O47: the iteration is what comes before its scan, and then the scan's hold. -/
theorem iterationsWithKey : Obligations.IterationsWithKey := by
  intro s r c ready pins unselected first
  have between := ready.betweenOps
  have scan (v : BitVec dvWidth) (rest : List Task) :=
    finishPoll_keyScan_hit (s := { s with displayValue := v }) pins unselected first rest
  refine ⟨exec_of_finishPoll rfl between ((finishPoll_modeselIter s).trans (scan _ _)),
    exec_of_finishPoll rfl between ((finishPoll_storeIter s).trans (scan _ _)), fun fits => ?_⟩
  refine exec_of_finishPoll rfl between ((finishPoll_menuIter s).trans ?_)
  rw [writeDisplayCurrency_of_fits fits]
  exact scan _ _

/-- Settles O48: one turn for the test, one more where the code selects GAME_EXIT or PLAY_ENTER. -/
theorem keyRoutes : Obligations.KeyRoutes := by
  refine ⟨fun s _ idle place => ⟨fun play => ?_, fun exit => ?_, fun store => ?_,
      fun notPlay notExit notStore => ?_⟩,
    fun s _ idle place => ⟨fun t tier => ?_, fun notFirst notSecond => ?_⟩,
    fun s _ idle place => ⟨fun i buy => ?_, fun back => ?_, fun noBuy noBack => ?_⟩⟩
  · exact pollingTurn_of_taskStep place (taskStep_menuRoute_play play) rfl idle
  · rw [pollingTurn_of_taskStep place (taskStep_menuRoute_exit exit) rfl idle]
    exact pollingTurn_cons idle rfl rfl
  · exact pollingTurn_of_taskStep place (taskStep_menuRoute_store store) rfl idle
  · exact pollingTurn_of_taskStep place (taskStep_menuRoute_other notPlay notExit notStore) rfl idle
  · rw [pollingTurn_of_taskStep place (taskStep_modeselRoute_tier tier) rfl idle]
    exact pollingTurn_cons (s := { s with speedTier := t }) idle rfl rfl
  · exact pollingTurn_of_taskStep place (taskStep_modeselRoute_other notFirst notSecond) rfl idle
  · exact pollingTurn_of_taskStep place (taskStep_storeRoute_buy buy) rfl idle
  · exact pollingTurn_of_taskStep place (taskStep_storeRoute_back back) rfl idle
  · exact pollingTurn_of_taskStep place ((taskStep_storeRoute_noBuy noBuy).trans (if_neg noBack)) rfl idle

/-- Settles O49: PLAY_ENTER is one micro-step. -/
theorem playEnter : Obligations.PlayEnter :=
  ⟨by decide, fun _ ready => exec_of_performs rfl ready.betweenOps (performs_of_done rfl)⟩

/-- Settles O50: SW_EDGE is one micro-step. -/
theorem swEdge : Obligations.SwEdge :=
  ⟨by decide, fun prev now => ⟨edgeFlips_rising prev now, edgeFlips_both prev now⟩,
    fun s ready => exec_of_performs rfl ready.betweenOps (performs_swEdge s)⟩

/-- Settles O57: each is one micro-step; the second PIN_CONFIG writes the value that stands. -/
theorem modeReadAndPinConfig : Obligations.ModeReadAndPinConfig := by
  refine ⟨by decide, by decide, fun s ready => ?_⟩
  have configured : exec .pinConfig s = .next { s with pinsConfigured := true } :=
    exec_of_performs rfl ready.betweenOps (performs_of_done rfl)
  refine ⟨exec_of_performs rfl ready.betweenOps (performs_of_done rfl), configured, fun pins => ?_⟩
  have same : { s with pinsConfigured := true } = s := by rw [← pins]
  rw [configured, same]

/-- Settles O52: on a match the count, and then its three parts in turn, before any of which a handler may begin. -/
theorem collectCheck : Obligations.CollectCheck := by
  refine ⟨by decide, fun s ready met fits => ⟨?_, ?_⟩, fun s ready apart => ?_,
    fun s rest _ idle pending _ => interruptTurn_pending idle pending, fun s rest _ idle => ⟨fun place fits => ?_,
    fun place => ?_⟩⟩
  · have counted := exec_of_performs (i := .collectCheck) rfl ready.betweenOps (performs_collectCheck_match met)
    rw [collected, writeDisplayCurrency_of_fits (s := { s with currency := s.currency + 1 }) fits] at counted
    exact counted
  · obtain ⟨-, tick⟩ := ready.betweenOps
    rw [givePoll_of_betweenOps ready.betweenOps]
    have counted : taskStep .collectCheck 0 s = ({ s with currency := s.currency + 1 },
      .into [.dvCurrency, .call .audioPulse, .glowTrigger]) := if_pos ((inPlayerCell_iff _ _).mpr met)
    exact pollingTurn_cons (congrArg Agenda.todo tick) counted rfl
  · exact exec_of_performs rfl ready.betweenOps (performs_collectCheck_miss apart)
  · have shown : taskStep .dvCurrency 0 s =
        ({ s with displayValue := BitVec.ofNat dvWidth s.currency }, .done) := by
      rw [← writeDisplayCurrency_of_fits fits]
      rfl
    exact pollingTurn_of_taskStep place shown rfl idle
  · exact pollingTurn_of_taskStep place rfl rfl idle

end Sys2Proof.GameLoop
